-- ==== Sys2Proof/Word.lean ====
section
/-! DEFINITION. The word types of the block (00_scope.md R11, R12): unsigned words of a stated width, and the
fixed byte buffers of the state tables. -/

namespace Sys2Proof

/-- `u8` of R12: one byte of a wire stream or of a buffer. -/
abbrev Byte := BitVec 8

/-- `u32` of R12: one host register word. -/
abbrev Word := BitVec 32

/-- `widx` of R21: the 6-bit word index of a host register access. -/
abbrev WordIdx := BitVec 6

/-- A payload buffer of `PAY_MAX` = 12 bytes (R26 to R29, R33, R35, R103). -/
abbrev Pay := Vector Byte 12

/-- The three reserved bytes of a frame header (R26 to R28). -/
abbrev Res := Vector Byte 3

/-- A payload buffer of zeros. -/
def Pay.zero : Pay := Vector.replicate 12 0

/-- Three reserved bytes of zeros. -/
def Res.zero : Res := Vector.replicate 3 0

end Sys2Proof
end

