-- ==== Sys2Proof/Config.lean ====
section
/-! DEFINITION. What one implementation fixes (00_scope.md R9, R10): the literals of the wire format, and the three
parameters with a range. The spec leaves no value open (92_eei_decisions.md, "None is left open"), so this file
holds no free value. -/

namespace Sys2Proof

/-- `SYNC`, the sync byte (R9, R92). -/
def SYNC : Byte := 0x55#8

/-- `RESV`, the reserved bytes the encoder sends at raw offsets 1 to 3 (R9, R92). -/
def RESV : List Byte := [0xDE#8, 0xAD#8, 0xBE#8]

/-- `PAY_MAX`, the largest fixed payload length (R9). -/
def PAY_MAX : Nat := 12

/-- The parameters of R9 that have a range. "A model takes each one as an argument": they stand in `State` as a
constant field that no step changes (DESIGN CHOICE, assumption 3). -/
structure Config where
  /-- `REG_DEPTH`, registry capacity. -/
  regDepth : Nat
  /-- `EVQ_DEPTH`, event queue capacity. -/
  evqDepth : Nat
  /-- `TICK_HZ`, nominal timebase frequency. -/
  tickHz : Nat
  deriving DecidableEq, Repr

/-- `THRESH = TICK_HZ * 1000` (R9). -/
def Config.thresh (c : Config) : Nat := c.tickHz * 1000

/-- The defaults R9 gives. -/
def Config.defaults : Config := { regDepth := 16, evqDepth := 16, tickHz := 1000 }

/-- The ranges R9 gives. -/
def Config.legal (c : Config) : Bool :=
  decide (1 ≤ c.regDepth ∧ c.regDepth ≤ 256 ∧ 1 ≤ c.evqDepth ∧ c.evqDepth ≤ 65535 ∧
    1 ≤ c.tickHz ∧ c.tickHz ≤ 2147483)

end Sys2Proof
end

