-- ==== Sys2Proof/Syntax.lean ====
section
/-! DEFINITION. The instructions of spec/opcode_table.json, one constructor per row, and the places an instruction
is read from: the host bus (command words, register reads and writes) and a frame's data-type byte. -/

namespace Sys2Proof

/-- The points of a received frame's life at which what the block does depends on the frame's data type. A FRAME
row of the table is selected by its data-type byte alone; the stage says which point of the receive path reads that
byte (DESIGN CHOICE, assumption 6). -/
inductive FrameStage where
  /-- The data-type byte has just been accepted as the fourth logical header byte (41_deframer.md R154). -/
  | typed
  /-- The fourth length byte has just been accepted (R156, R157). -/
  | lengthRead
  /-- The last payload byte has just been accepted (R159, R160). -/
  | completed
  /-- The frame is in the slot when the dispatcher runs (42_dispatcher.md R178). -/
  | dispatched
  deriving DecidableEq, Repr

/-- One host register access per cycle at most (`bus_op` of R21). -/
inductive BusOp where
  /-- `None`. -/
  | idle
  /-- `Read(widx)`. -/
  | read (w : WordIdx)
  /-- `Write(widx, data)`. -/
  | write (w : WordIdx) (d : Word)
  deriving DecidableEq, Repr

/-- The rows of spec/opcode_table.json. -/
inductive Instr where
  /-- NOP (45_commands.md R235). -/
  | nop
  /-- SEND with its TYPE field (R236). -/
  | send (t : Byte)
  /-- SCHED_START with its TYPE field (R238). -/
  | schedStart (t : Byte)
  /-- SCHED_ADJUST (R239). -/
  | schedAdjust
  /-- SCHED_STOP (R240). -/
  | schedStop
  /-- EVT_POP (R241). -/
  | evtPop
  /-- CLR_CNT (R242). -/
  | clrCnt
  /-- BAD_CMD (reserved): any command word that is not well formed (R233). -/
  | badCmd (d : Word)
  /-- RD, the host bus read (R243). -/
  | rd (w : WordIdx)
  /-- WR, the host bus write (R244). -/
  | wr (w : WordIdx) (d : Word)
  /-- Data type 1 (30_encoding.md R93). -/
  | telecommandRequest (st : FrameStage)
  /-- Data type 2. -/
  | telecommandResponse (st : FrameStage)
  /-- Data type 3. -/
  | telemetryData (st : FrameStage)
  /-- Data type 4. -/
  | telemetryRequest (st : FrameStage)
  /-- Data type 7. -/
  | telemetryRequestRejection (st : FrameStage)
  /-- Data type 5, reserved (R106). -/
  | fileUpload (st : FrameStage)
  /-- Data type 6, reserved (R106). -/
  | fileDownload (st : FrameStage)
  /-- Any other data-type byte (R106, R154). -/
  | invalidDataType (t : Byte) (st : FrameStage)
  deriving DecidableEq, Repr

/-- Where an instruction is read: a bus access (a write to CMD carries a command word), or a data-type byte read at
a stage of the receive path. -/
inductive Site where
  | bus (op : BusOp)
  | dataType (t : Byte) (st : FrameStage)
  deriving DecidableEq, Repr

/-- The one place with no instruction in it. Illegal words have rows of their own (BAD_CMD, INVALID_DATA_TYPE). -/
inductive DecodeError where
  /-- The bus is idle this cycle. -/
  | noAccess
  deriving DecidableEq, Repr

end Sys2Proof
end

