-- ==== Sys2Proof/Machine/State.lean ====
section
/-! DEFINITION. The state of the block (10_state.md R24 to R36), unit by unit, with three fields of the model's own
(`cfg`, `inputs`, `out`); the fault and refusal reasons; and the state after reset (70_reset_and_hazards.md R286). -/

namespace Sys2Proof.Machine

/-- The kind of a request (00_scope.md R16): TM is encoded 0, TC 1. -/
inductive Kind where
  | tm
  | tc
  deriving DecidableEq, Repr

/-- `df_state` (R26, 41_deframer.md R142). -/
inductive DfState where
  | awaitingSync
  | readingHeader
  | readingLength
  | readingPayload
  deriving DecidableEq, Repr

/-- The deframer state (R26). -/
structure Deframer where
  /-- `df_state`. -/
  state : DfState
  /-- `df_pend`, the pending-escape flag (R143). -/
  pend : Bool
  /-- `df_hcnt`, 0..4. -/
  hcnt : Nat
  /-- `df_res[0..2]`. -/
  res : Res
  /-- `df_type`. -/
  dtype : Byte
  /-- `df_lcnt`, 0..4. -/
  lcnt : Nat
  /-- `df_len`. -/
  len : Word
  /-- `df_pcnt`. -/
  pcnt : Word
  /-- `df_pay[0..11]`. -/
  pay : Pay
  deriving DecidableEq, Repr

/-- The frame slot (R27). -/
structure Slot where
  full : Bool
  dtype : Byte
  res : Res
  pay : Pay
  deriving DecidableEq, Repr

/-- The last-frame capture (R28). -/
structure LastFrame where
  res : Res
  dtype : Byte
  pay : Pay
  deriving DecidableEq, Repr

/-- The transmit engine (R29). -/
structure TxEngine where
  /-- `tx_active`. -/
  active : Bool
  /-- `tx_type`. -/
  dtype : Byte
  /-- `tx_pay[0..11]`. -/
  pay : Pay
  /-- `tx_idx`, 0..21. -/
  idx : Nat
  /-- `tx_esc`. -/
  esc : Bool
  /-- `enc_esc_cnt` (40_encoder.md R125). -/
  escCnt : Byte
  deriving DecidableEq, Repr

/-- One registry entry (R30). -/
structure Entry where
  kind : Kind
  id : Word
  cnt : Word
  expired : Bool
  deriving DecidableEq, Repr

/-- One event record (30_encoding.md R103). -/
structure Event where
  code : Byte
  matched : Bool
  kind : Kind
  id : Word
  data : Pay
  deriving DecidableEq, Repr

/-- The scheduler (R33). -/
structure Scheduler where
  /-- `sch_active`. -/
  active : Bool
  /-- `sch_type`. -/
  dtype : Byte
  /-- `sch_pay[0..11]`. -/
  pay : Pay
  /-- `sch_timeout`. -/
  timeout : Word
  /-- `sch_rate`. -/
  rate : Word
  /-- `sch_acc`. -/
  acc : Word
  /-- `tick_pend`. -/
  tickPend : Bool
  deriving DecidableEq, Repr

/-- The Transport fault waiting for its event (R34). -/
structure TransportFault where
  /-- `fault_pend`. -/
  pend : Bool
  /-- `fault_code`: false is TransportWriteTimeout, true TransportPortError (R21). -/
  code : Bool
  deriving DecidableEq, Repr

/-- The host-visible control state (R35). -/
structure Control where
  /-- `ctrl_irq_en`. -/
  irqEn : Bool
  /-- `arg_timeout`. -/
  argTimeout : Word
  /-- `arg_rate`. -/
  argRate : Word
  /-- `arg_pay[0..11]`. -/
  argPay : Pay
  /-- `cmd_result`. -/
  cmdResult : Word
  /-- `reg_sel`. -/
  regSel : Byte
  deriving DecidableEq, Repr

/-- The twelve counters (R36, R59), in the order of the register map. -/
structure Counters where
  rxFrame : Word
  syncErr : Word
  typeErr : Word
  lenErr : Word
  malLen : Word
  drop : Word
  late : Word
  timeout : Word
  fault : Word
  txFrame : Word
  schedSkip : Word
  schedOvr : Word
  deriving DecidableEq, Repr

/-- The inputs of one cycle (R21). -/
structure CycleIn where
  rst : Bool
  busOp : BusOp
  rxValid : Bool
  rxByte : Byte
  txReady : Bool
  txErrValid : Bool
  txErrCode : Bool
  tick : Bool
  deriving DecidableEq, Repr

/-- The `IDLE` cycle of 30_encoding.md R111: no bus access, no byte, no tick, and `tx_ready = 1`. -/
def CycleIn.idle : CycleIn :=
  { rst := false, busOp := .idle, rxValid := false, rxByte := 0, txReady := true, txErrValid := false,
    txErrCode := false, tick := false }

/-- The outputs of one cycle (R22). -/
structure CycleOut where
  busRdata : Word
  rxReady : Bool
  txValid : Bool
  txByte : Byte
  irq : Bool
  deriving DecidableEq, Repr

/-- The outputs of a reset cycle, all 0 (R23). -/
def CycleOut.zero : CycleOut := { busRdata := 0, rxReady := false, txValid := false, txByte := 0, irq := false }

/-- The state. `cfg`, `inputs` and `out` are the model's own fields; every other field is one the spec names. -/
structure State where
  /-- The parameters of 00_scope.md R9; no step changes them (assumption 3). -/
  cfg : Config
  df : Deframer
  slot : Slot
  last : LastFrame
  tx : TxEngine
  /-- The registry, in insertion order (R30). -/
  reg : List Entry
  /-- The event queue, head first (R31). -/
  evq : List Event
  sch : Scheduler
  flt : TransportFault
  ctl : Control
  cnt : Counters
  /-- What the environment drives in the coming cycles, the next cycle first; after the last, IDLE cycles
  (assumption 1). -/
  inputs : List CycleIn
  /-- The outputs of the last cycle (assumption 2). -/
  out : CycleOut
  deriving DecidableEq, Repr

/-- Why the model stops. -/
inductive Fault where
  /-- Raised by `cycle` when a frame is marked as being sent and the transmit engine's type has no frame, or its
  index lies past the frame, so that R127 gives `tx_byte` no value. No state a run from reset reaches is such a
  state (00_scope.md R9, 40_encoder.md R122, R128). Safe (assumption 8). -/
  | noTransmitByte
  deriving DecidableEq, Repr

/-- Why the model gives an instruction no meaning. -/
inductive Refusal where
  /-- Raised by `exec` for a row without a meaning; every row of this model has one, so nothing raises it. Safe. -/
  | notModelled (mnemonic : String)
  deriving DecidableEq, Repr

/-- The outcome of a step or of a meaning. -/
abbrev StepResult := Host.Outcome State Fault Refusal

def Deframer.reset : Deframer :=
  { state := .awaitingSync, pend := false, hcnt := 0, res := Res.zero, dtype := 0, lcnt := 0, len := 0, pcnt := 0,
    pay := Pay.zero }

def Slot.reset : Slot := { full := false, dtype := 0, res := Res.zero, pay := Pay.zero }

def LastFrame.reset : LastFrame := { res := Res.zero, dtype := 0, pay := Pay.zero }

def TxEngine.reset : TxEngine :=
  { active := false, dtype := 0, pay := Pay.zero, idx := 0, esc := false, escCnt := 0 }

def Scheduler.reset : Scheduler :=
  { active := false, dtype := 0, pay := Pay.zero, timeout := 0, rate := 0, acc := 0, tickPend := false }

def TransportFault.reset : TransportFault := { pend := false, code := false }

def Control.reset : Control :=
  { irqEn := false, argTimeout := 0, argRate := 0, argPay := Pay.zero, cmdResult := 0, regSel := 0 }

/-- The counters after reset and after CLR_CNT (R242). -/
def Counters.zero : Counters :=
  { rxFrame := 0, syncErr := 0, typeErr := 0, lenErr := 0, malLen := 0, drop := 0, late := 0, timeout := 0,
    fault := 0, txFrame := 0, schedSkip := 0, schedOvr := 0 }

/-- ResetState (R286) of a block with the given parameters, in an environment that goes on with the given inputs. -/
def State.resetWith (c : Config) (ins : List CycleIn) : State :=
  { cfg := c, df := .reset, slot := .reset, last := .reset, tx := .reset, reg := [], evq := [], sch := .reset,
    flt := .reset, ctl := .reset, cnt := .zero, inputs := ins, out := .zero }

/-- The block with the default parameters, right after reset. -/
def State.reset : State := State.resetWith Config.defaults []

end Sys2Proof.Machine
end

