-- ==== Sys2Proof/Machine/Operands.lean ====
section
/-! DEFINITION. The operand forms: the data-type tables (30_encoding.md R93 to R99), the big-endian byte order
(00_scope.md R13, 20_memory.md R79, R80), payload buffers, and the result codes (R102). -/

namespace Sys2Proof.Machine

/-- `SIZE(t)` (R94); `none` is the spec's undefined. -/
def size (t : Byte) : Option Nat :=
  match t.toNat with
  | 1 => some 12
  | 2 => some 5
  | 3 => some 12
  | 4 => some 4
  | 7 => some 5
  | _ => none

/-- `Encodable` (R95). -/
def encodable (t : Byte) : Bool := (size t).isSome

/-- `KindOf(t)` (R99); codes without a kind have none. -/
def kindOf (t : Byte) : Option Kind :=
  match t.toNat with
  | 1 => some .tc
  | 2 => some .tc
  | 3 => some .tm
  | 4 => some .tm
  | 7 => some .tm
  | _ => none

/-- The kind of the entry a request type creates; only types 1 and 4 create one (R99, 43_registry.md R202). -/
def requestKind (t : Byte) : Option Kind :=
  match t.toNat with
  | 1 => some .tc
  | 4 => some .tm
  | _ => none

/-- The encoding of a kind: TM 0, TC 1 (R30). -/
def Kind.bit : Kind → BitVec 1
  | .tm => 0#1
  | .tc => 1#1

/-- `BE32` (R13). -/
def be32 (b0 b1 b2 b3 : Byte) : Word := b0 ++ b1 ++ b2 ++ b3

/-- `BE32bytes` (R13). -/
def be32Bytes (v : Word) : List Byte :=
  [v.extractLsb' 24 8, v.extractLsb' 16 8, v.extractLsb' 8 8, v.extractLsb' 0 8]

/-- Payload bytes `4k` to `4k+3` as a big-endian word (R80). -/
def payWord (p : Pay) (k : Fin 3) : Word := be32 p[4 * k.val] p[4 * k.val + 1] p[4 * k.val + 2] p[4 * k.val + 3]

/-- The payload with bytes `4k` to `4k+3` replaced by a big-endian word (R45). -/
def setPayWord (p : Pay) (k : Fin 3) (d : Word) : Pay :=
  (((p.set (4 * k.val) (d.extractLsb' 24 8)).set (4 * k.val + 1) (d.extractLsb' 16 8)).set (4 * k.val + 2)
    (d.extractLsb' 8 8)).set (4 * k.val + 3) (d.extractLsb' 0 8)

/-- The identifier, `BE32(payload[0..3])` (R98). -/
def ident (p : Pay) : Word := payWord p 0

/-- The first `n` payload bytes, zeros above. -/
def firstBytes (n : Nat) (p : Pay) : Pay := Vector.ofFn fun i => if i.val < n then p[i] else 0

/-- The payload snapshot SEND and SCHED_START take: bytes below `SIZE(t)`, zeros above (R126, R238). `SIZE` is
defined for every type either command accepts. -/
def snapshot (t : Byte) (p : Pay) : Pay := firstBytes ((size t).getD 0) p

/-- The result codes (R102). -/
inductive ResultCode where
  | ok
  | badCmd
  | badType
  | busy
  | regFull
  | rateZero
  | rateRange
  | noSession
  | evqEmpty
  deriving DecidableEq, Repr

/-- The encoding of a result code (R102). -/
def ResultCode.byte : ResultCode → Byte
  | .ok => 0x00#8
  | .badCmd => 0x01#8
  | .badType => 0x02#8
  | .busy => 0x03#8
  | .regFull => 0x04#8
  | .rateZero => 0x05#8
  | .rateRange => 0x06#8
  | .noSession => 0x07#8
  | .evqEmpty => 0x08#8

end Sys2Proof.Machine
end

