-- ==== Sys2Proof/Machine/Flags.lean ====
section
/-! DEFINITION. The status words: how state shows in STATUS, TX_STATUS, DF_STATUS and the other packed registers
(10_state.md R39 to R55), the interrupt condition (R23, R264) and the CMD_RESULT word (R42, R232). -/

namespace Sys2Proof.Machine

/-- The level interrupt, `ctrl_irq_en and len(evq) > 0` (R264). -/
def irqLevel (s : State) : Bool := s.ctl.irqEn && decide (0 < s.evq.length)

/-- The encoding of `df_state` (R26). -/
def DfState.bits : DfState → BitVec 2
  | .awaitingSync => 0#2
  | .readingHeader => 1#2
  | .readingLength => 2#2
  | .readingPayload => 3#2

/-- A one-bit field. -/
def flag (b : Bool) : BitVec 1 := BitVec.ofBool b

/-- STATUS (R40), bit 10 down to bits 1..0. -/
def statusWord (s : State) : Word :=
  0#21 ++ flag (irqLevel s) ++ flag s.flt.code ++ flag s.flt.pend ++ flag s.sch.tickPend ++ flag s.sch.active ++
    flag s.tx.esc ++ flag s.tx.active ++ flag s.slot.full ++ flag s.df.pend ++ s.df.state.bits

/-- TX_STATUS (R46). -/
def txStatusWord (s : State) : Word := 0#8 ++ s.tx.dtype ++ BitVec.ofNat 8 s.tx.idx ++ s.tx.escCnt

/-- DF_STATUS (R47). -/
def dfStatusWord (s : State) : Word :=
  0#16 ++ s.df.dtype ++ 0#1 ++ BitVec.ofNat 3 s.df.lcnt ++ 0#1 ++ BitVec.ofNat 3 s.df.hcnt

/-- LAST_HDR (R49). -/
def lastHdrWord (s : State) : Word := be32 s.last.res[0] s.last.res[1] s.last.res[2] s.last.dtype

/-- EVQ_STATUS (R50). -/
def evqStatusWord (s : State) : Word := 0#16 ++ BitVec.ofNat 16 s.evq.length

/-- EVT_INFO of a head record (R51). -/
def evtInfoWord (h : Event) : Word := 0#22 ++ h.kind.bit ++ flag h.matched ++ h.code

/-- A field of the head record; 0 when the queue is empty (R51). -/
def headField (s : State) (f : Event → Word) : Word :=
  match s.evq with
  | [] => 0
  | h :: _ => f h

/-- SCH_INFO (R52); the kind bit is 0 when `sch_type` has no kind. -/
def schInfoWord (s : State) : Word :=
  0#23 ++ (match kindOf s.sch.dtype with | some k => k.bit | none => 0#1) ++ s.sch.dtype

/-- REG_STATUS (R53). -/
def regStatusWord (s : State) : Word :=
  BitVec.ofNat 16 (s.reg.countP (·.expired)) ++ BitVec.ofNat 16 s.reg.length

/-- REG_ENT_INFO of an entry (R55). -/
def entInfoWord (e : Entry) : Word := 0#29 ++ flag e.expired ++ e.kind.bit ++ 1#1

/-- A field of the entry REG_SEL selects; 0 when there is none (R55). -/
def entField (s : State) (f : Entry → Word) : Word :=
  match s.reg[s.ctl.regSel.toNat]? with
  | some e => f e
  | none => 0

/-- The CMD_RESULT word of an opcode and a result code, `{16'b0, zext_8(op), code}` (R232). -/
def resultWord (op : BitVec 4) (c : ResultCode) : Word := 0#16 ++ op.zeroExtend 8 ++ c.byte

end Sys2Proof.Machine
end

