-- ==== Sys2Proof/Machine/Ops.lean ====
section
/-! DEFINITION. The operations every unit shares: the outcome of one phase handed to the next, the result of a
command, the event queue, and the counters.

The block has no data memory and takes no processor trap (60_exceptions.md R269). What stands for taking an
exception is `result`, the report of a command and the whole of a refused one (R262), and `evqPush`, the report of
asynchronous news (R269); what stands for returning from one is `evqPop` (R270). -/

namespace Sys2Proof.Machine

/-- Goes on with the next phase unless the block stopped. -/
def andThen (o : StepResult) (f : State → StepResult) : StepResult :=
  match o with
  | .next s => f s
  | .fault r => .fault r
  | .refused r => .refused r

/-- `result(code)` (45_commands.md R232). -/
def result (op : BitVec 4) (c : ResultCode) (s : State) : State :=
  { s with ctl := { s.ctl with cmdResult := resultWord op c } }

/-- `len(evq) < EVQ_DEPTH`, which every caller of `evqPush` checks first (10_state.md R32). -/
def evqHasRoom (s : State) : Bool := decide (s.evq.length < s.cfg.evqDepth)

/-- `EvqPush` (R32). -/
def evqPush (e : Event) (s : State) : State := { s with evq := s.evq ++ [e] }

/-- The head event removed (45_commands.md R241). -/
def evqPop (s : State) : State := { s with evq := s.evq.tail }

/-- `len(reg) >= REG_DEPTH` (43_registry.md R194). -/
def regIsFull (s : State) : Bool := decide (s.cfg.regDepth ≤ s.reg.length)

/-- `inc` of CNT_RX_FRAME (R59). -/
def Counters.incRxFrame (c : Counters) : Counters := { c with rxFrame := c.rxFrame + 1 }
/-- `inc` of CNT_SYNC_ERR. -/
def Counters.incSyncErr (c : Counters) : Counters := { c with syncErr := c.syncErr + 1 }
/-- `inc` of CNT_TYPE_ERR. -/
def Counters.incTypeErr (c : Counters) : Counters := { c with typeErr := c.typeErr + 1 }
/-- `inc` of CNT_LEN_ERR. -/
def Counters.incLenErr (c : Counters) : Counters := { c with lenErr := c.lenErr + 1 }
/-- `inc` of CNT_MALLEN. -/
def Counters.incMalLen (c : Counters) : Counters := { c with malLen := c.malLen + 1 }
/-- `inc` of CNT_DROP. -/
def Counters.incDrop (c : Counters) : Counters := { c with drop := c.drop + 1 }
/-- `inc` of CNT_LATE. -/
def Counters.incLate (c : Counters) : Counters := { c with late := c.late + 1 }
/-- `inc` of CNT_TIMEOUT. -/
def Counters.incTimeout (c : Counters) : Counters := { c with timeout := c.timeout + 1 }
/-- `inc` of CNT_FAULT. -/
def Counters.incFault (c : Counters) : Counters := { c with fault := c.fault + 1 }
/-- `inc` of CNT_TX_FRAME. -/
def Counters.incTxFrame (c : Counters) : Counters := { c with txFrame := c.txFrame + 1 }
/-- `inc` of CNT_SCHED_SKIP. -/
def Counters.incSchedSkip (c : Counters) : Counters := { c with schedSkip := c.schedSkip + 1 }
/-- `inc` of CNT_SCHED_OVR. -/
def Counters.incSchedOvr (c : Counters) : Counters := { c with schedOvr := c.schedOvr + 1 }

end Sys2Proof.Machine
end

