-- ==== Sys2Proof/Machine/Faults.lean ====
section
/-! DEFINITION. Transport faults (60_exceptions.md R265 to R267). -/

namespace Sys2Proof.Machine

/-- `FaultCapture(code)` (R266). -/
def faultCapture (code : Bool) (s : State) : State :=
  { s with cnt := s.cnt.incFault, flt := if s.flt.pend then s.flt else { pend := true, code := code } }

/-- The fault event's data, `BE32bytes(zext_32(fault_code))` and eight zero bytes (R267). -/
def faultData (code : Bool) : Pay := setPayWord Pay.zero 0 ((flag code).zeroExtend 32)

/-- The event of a Transport fault (R267). -/
def faultEvent (code : Bool) : Event :=
  { code := 0x81#8, matched := false, kind := .tm, id := 0, data := faultData code }

/-- `FaultPush` (R267). -/
def faultPush (s : State) : State :=
  if s.flt.pend && evqHasRoom s then
    evqPush (faultEvent s.flt.code) { s with flt := { s.flt with pend := false } }
  else s

end Sys2Proof.Machine
end

