-- ==== Sys2Proof/WellFormed.lean ====
section
/-! DEFINITION. Which instruction terms the encodings can express. -/

namespace Sys2Proof

/-- `WellFormed(d)` of 45_commands.md R233, on the command word itself. -/
def wordWellFormed (d : Word) : Bool :=
  (d >>> 16 == 0) && (d.extractLsb' 4 4 == 0) && decide ((d.extractLsb' 0 4).toNat ≤ 6) &&
    ((d.extractLsb' 8 8 == 0) || (d.extractLsb' 0 4 == 1) || (d.extractLsb' 0 4 == 2))

/-- A term is well formed when some place of the block holds it: BAD_CMD holds only words that are not well formed
(R233), WR is a write to any word but CMD (R244; a write to CMD is its command), and INVALID_DATA_TYPE holds only
bytes that are no data type (R93). -/
def Instr.wellFormed : Instr → Bool
  | .nop => true
  | .send _ => true
  | .schedStart _ => true
  | .schedAdjust => true
  | .schedStop => true
  | .evtPop => true
  | .clrCnt => true
  | .badCmd d => !wordWellFormed d
  | .rd _ => true
  | .wr w _ => decide (w ≠ 2#6)
  | .telecommandRequest _ => true
  | .telecommandResponse _ => true
  | .telemetryData _ => true
  | .telemetryRequest _ => true
  | .telemetryRequestRejection _ => true
  | .fileUpload _ => true
  | .fileDownload _ => true
  | .invalidDataType t _ => decide (t = 0#8 ∨ 7#8 < t)

end Sys2Proof
end

