-- ==== Sys2Proof/Decode.lean ====
section
/-! DEFINITION. The decoder and the encoder of the three encodings that carry an instruction: the command word
(30_encoding.md R100, R101), the bus access (R21) and the data-type byte (R93). Both are total. -/

namespace Sys2Proof

/-- OP, `d[3:0]` (R100). -/
def cmdOp (d : Word) : BitVec 4 := d.extractLsb' 0 4

/-- The reserved field `d[7:4]` (R100). -/
def cmdReserved (d : Word) : BitVec 4 := d.extractLsb' 4 4

/-- TYPE, `d[15:8]` (R100). -/
def cmdType (d : Word) : Byte := d.extractLsb' 8 8

/-- The reserved field `d[31:16]` (R100). -/
def cmdHigh (d : Word) : BitVec 16 := d.extractLsb' 16 16

/-- A command that takes no TYPE: TYPE must be 0 (R101). -/
def noType (d : Word) (i : Instr) : Instr := if cmdType d = 0 then i else .badCmd d

/-- The command in a word written to CMD (R100, R101). Every word the table's other CMD rows do not match is
BAD_CMD. -/
def decodeCommand (d : Word) : Instr :=
  if cmdHigh d = 0 ∧ cmdReserved d = 0 then
    match (cmdOp d).toNat with
    | 0 => noType d .nop
    | 1 => .send (cmdType d)
    | 2 => .schedStart (cmdType d)
    | 3 => noType d .schedAdjust
    | 4 => noType d .schedStop
    | 5 => noType d .evtPop
    | 6 => noType d .clrCnt
    | _ => .badCmd d
  else .badCmd d

/-- The FRAME row a data-type byte selects (R93). -/
def decodeDataType (t : Byte) (st : FrameStage) : Instr :=
  match t.toNat with
  | 1 => .telecommandRequest st
  | 2 => .telecommandResponse st
  | 3 => .telemetryData st
  | 4 => .telemetryRequest st
  | 5 => .fileUpload st
  | 6 => .fileDownload st
  | 7 => .telemetryRequestRejection st
  | _ => .invalidDataType t st

/-- The word index of CMD (10_state.md R38: byte address 0x08). -/
def cmdIdx : WordIdx := 2#6

/-- The decoder: a write to CMD is its command (45_commands.md R231), any other access is RD or WR. -/
def decode : Site → Except DecodeError Instr
  | .bus .idle => .error .noAccess
  | .bus (.read w) => .ok (.rd w)
  | .bus (.write w d) => .ok (if w = cmdIdx then decodeCommand d else .wr w d)
  | .dataType t st => .ok (decodeDataType t st)

/-- The command word of an opcode and a TYPE: `{16'b0, type, 4'b0, op}` (R100). -/
def commandWord (op : BitVec 4) (t : Byte) : Word := 0#16 ++ t ++ 0#4 ++ op

/-- The write to CMD that carries a command word. -/
def encodeCommand (op : BitVec 4) (t : Byte) : Site := .bus (.write cmdIdx (commandWord op t))

/-- The encoder, from the opcode table of R101, the ports of R21 and the data-type codes of R93. -/
def encode : Instr → Site
  | .nop => encodeCommand 0x0#4 0
  | .send t => encodeCommand 0x1#4 t
  | .schedStart t => encodeCommand 0x2#4 t
  | .schedAdjust => encodeCommand 0x3#4 0
  | .schedStop => encodeCommand 0x4#4 0
  | .evtPop => encodeCommand 0x5#4 0
  | .clrCnt => encodeCommand 0x6#4 0
  | .badCmd d => .bus (.write cmdIdx d)
  | .rd w => .bus (.read w)
  | .wr w d => .bus (.write w d)
  | .telecommandRequest st => .dataType 1#8 st
  | .telecommandResponse st => .dataType 2#8 st
  | .telemetryData st => .dataType 3#8 st
  | .telemetryRequest st => .dataType 4#8 st
  | .telemetryRequestRejection st => .dataType 7#8 st
  | .fileUpload st => .dataType 5#8 st
  | .fileDownload st => .dataType 6#8 st
  | .invalidDataType t st => .dataType t st

/-- The place a table word stands in: 32 bits are a command word written to CMD, 8 bits a data-type byte at the
header check. The table gives RD and WR no bits, so no word of it is one of them (assumption 7). -/
def tableSite (nbits w : Nat) : Option Site :=
  if nbits = 32 then some (.bus (.write cmdIdx (BitVec.ofNat 32 w)))
  else if nbits = 8 then some (.dataType (BitVec.ofNat 8 w) .typed)
  else none

/-- The instruction the decoder reads from a word numbered as spec/opcode_table.json numbers it. -/
def decodeTableWord (nbits w : Nat) : Option Instr :=
  match tableSite nbits w with
  | some e => (decode e).toOption
  | none => none

end Sys2Proof
end

