-- ==== Sys2Proof/Machine/Encoder.lean ====
section
/-! DEFINITION. The frame encoder and the transmit engine (40_encoder.md). -/

namespace Sys2Proof.Machine

/-- `RawFrame(t, p)` (R121); a type without a size has no frame (R122). -/
def rawFrame (t : Byte) (p : Pay) : Option (List Byte) :=
  (size t).map fun n => [SYNC] ++ RESV ++ [t] ++ be32Bytes (BitVec.ofNat 32 n) ++ p.toList.take n

/-- One raw byte after the first on the wire: a sync byte is doubled (30_encoding.md R97). -/
def stuffByte (b : Byte) : List Byte := if b = SYNC then [SYNC, SYNC] else [b]

/-- `Stuff(raw)` (R97). -/
def stuff : List Byte → List Byte
  | [] => []
  | b :: bs => b :: bs.flatMap stuffByte

/-- `Encode(t, p)` (R121). -/
def wireFrame (t : Byte) (p : Pay) : Option (List Byte) := (rawFrame t p).map stuff

/-- `TxStart` (R126). Every caller checks that the engine is idle and the type is encodable. -/
def txStart (t : Byte) (p : Pay) (s : State) : State :=
  { s with tx := { active := true, dtype := t, pay := snapshot t p, idx := 0, esc := false, escCnt := 0 } }

/-- `TxByte` (R127); `none` where the engine's type has no frame or its index lies past the frame. -/
def txByte (tx : TxEngine) : Option Byte :=
  match rawFrame tx.dtype tx.pay with
  | some raw => if tx.esc then some SYNC else raw[tx.idx]?
  | none => none

/-- The engine's index, escape flag and counter after the offered byte is sent (R128). -/
def txNext (raw : List Byte) (tx : TxEngine) : TxEngine :=
  if tx.esc then { tx with esc := false, idx := tx.idx + 1 }
  else if 1 ≤ tx.idx ∧ raw[tx.idx]? = some SYNC then { tx with esc := true, escCnt := tx.escCnt + 1 }
  else { tx with idx := tx.idx + 1 }

/-- `TxAdvance` (R128). -/
def txAdvance (s : State) : State :=
  match rawFrame s.tx.dtype s.tx.pay with
  | some raw =>
    let tx := txNext raw s.tx
    if tx.idx = raw.length then { s with tx := { tx with active := false }, cnt := s.cnt.incTxFrame }
    else { s with tx := tx }
  | none => s

end Sys2Proof.Machine
end

