-- ==== Sys2Proof/Machine/Registry.lean ====
section
/-! DEFINITION. The pending-request registry (43_registry.md). -/

namespace Sys2Proof.Machine

/-- `RegInsert` (R193). Every caller checks first that the registry has room. -/
def regInsert (k : Kind) (id t : Word) (s : State) : State :=
  { s with reg := s.reg ++ [{ kind := k, id := id, cnt := t, expired := decide (t = 0) }] }

/-- The entry a sent frame of type `t` creates: one of its kind for a request type, none for another (R202). -/
def registerRequest (t : Byte) (p : Pay) (timeout : Word) (s : State) : State :=
  match requestKind t with
  | some k => regInsert k (ident p) timeout s
  | none => s

/-- One entry's countdown on a tick (R196). -/
def countEntry (e : Entry) : Entry :=
  if e.expired then e else { e with cnt := e.cnt - 1, expired := decide (e.cnt - 1 = 0) }

/-- `RegCountdown` (R196). -/
def regCountdown (s : State) : State := { s with reg := s.reg.map countEntry }

/-- The entries a response of kind `k` and identifier `id` can cancel: the live ones of both (R197). -/
def answers (k : Kind) (id : Word) (e : Entry) : Bool :=
  !e.expired && decide (e.kind = k) && decide (e.id = id)

/-- `RegMatchRemove` (R197): the first entry answered is removed and the order of the rest is kept; the bit says
whether there was one. -/
def regMatchRemove (k : Kind) (id : Word) (s : State) : State × Bool :=
  ({ s with reg := s.reg.eraseP (answers k id) }, s.reg.any (answers k id))

/-- The event of an expired entry (R198, 30_encoding.md R104). -/
def timeoutEvent (e : Entry) : Event :=
  { code := 0x80#8, matched := false, kind := e.kind, id := e.id, data := Pay.zero }

/-- `TimeoutPush` (R198). -/
def timeoutPush (s : State) : State :=
  match s.reg.find? (·.expired) with
  | some e =>
    if evqHasRoom s then
      evqPush (timeoutEvent e) { s with reg := s.reg.eraseP (·.expired), cnt := s.cnt.incTimeout }
    else s
  | none => s

end Sys2Proof.Machine
end

