-- ==== Sys2Proof/Machine/Scheduler.lean ====
section
/-! DEFINITION. The continuous-transmission scheduler (44_scheduler.md). -/

namespace Sys2Proof.Machine

/-- `SchedTick` (R213, R214). -/
def schedTick (s : State) : State :=
  if s.sch.active then
    let acc := s.sch.acc + s.sch.rate
    if s.cfg.thresh ≤ acc.toNat then
      { s with
        sch := { s.sch with acc := acc - BitVec.ofNat 32 s.cfg.thresh, tickPend := true }
        cnt := if s.sch.tickPend then s.cnt.incSchedOvr else s.cnt }
    else { s with sch := { s.sch with acc := acc } }
  else s

/-- The pending resend done with. -/
def clearTickPend (s : State) : State := { s with sch := { s.sch with tickPend := false } }

/-- `SchedService` (R215, R216). -/
def schedService (s : State) : State :=
  if !s.sch.tickPend || s.tx.active then s
  else if (requestKind s.sch.dtype).isSome && regIsFull s then
    clearTickPend { s with cnt := s.cnt.incSchedSkip }
  else
    clearTickPend
      (txStart s.sch.dtype s.sch.pay (registerRequest s.sch.dtype s.sch.pay s.sch.timeout s))

end Sys2Proof.Machine
end

