-- ==== Sys2Proof/Machine/Commands.lean ====
section
/-! DEFINITION. The meanings of the CMD rows (45_commands.md R235 to R242, R233). Each is all or nothing: its checks
in the order its rule lists them, then its effects (R234). -/

namespace Sys2Proof.Machine

/-- NOP (R235). -/
def execNop (s : State) : StepResult := .next (result 0x0#4 .ok s)

/-- SEND (R236). -/
def execSend (t : Byte) (s : State) : StepResult :=
  .next
    (if !encodable t then result 0x1#4 .badType s
    else if s.tx.active || s.sch.tickPend then result 0x1#4 .busy s
    else if (requestKind t).isSome && regIsFull s then result 0x1#4 .regFull s
    else result 0x1#4 .ok (txStart t s.ctl.argPay (registerRequest t s.ctl.argPay s.ctl.argTimeout s)))

/-- Why ARG_RATE is refused, if it is (R222). -/
def rateRefusal (s : State) : Option ResultCode :=
  if s.ctl.argRate = 0 then some .rateZero
  else if s.cfg.thresh < s.ctl.argRate.toNat then some .rateRange
  else none

/-- The session SCHED_START starts (R211). -/
def startSession (t : Byte) (s : State) : State :=
  { s with sch :=
      { active := true, dtype := t, pay := snapshot t s.ctl.argPay, timeout := s.ctl.argTimeout,
        rate := s.ctl.argRate, acc := 0, tickPend := false } }

/-- SCHED_START (R238). -/
def execSchedStart (t : Byte) (s : State) : StepResult :=
  .next
    (if !encodable t then result 0x2#4 .badType s
    else match rateRefusal s with
      | some c => result 0x2#4 c s
      | none => result 0x2#4 .ok (startSession t s))

/-- SCHED_ADJUST (R239): the phase is kept (44_scheduler.md R218). -/
def execSchedAdjust (s : State) : StepResult :=
  .next
    (if !s.sch.active then result 0x3#4 .noSession s
    else match rateRefusal s with
      | some c => result 0x3#4 c s
      | none => result 0x3#4 .ok { s with sch := { s.sch with rate := s.ctl.argRate } })

/-- SCHED_STOP (R240). -/
def execSchedStop (s : State) : StepResult :=
  .next (result 0x4#4 .ok { s with sch := { s.sch with active := false, acc := 0, tickPend := false } })

/-- EVT_POP (R241). -/
def execEvtPop (s : State) : StepResult :=
  .next (if s.evq.isEmpty then result 0x5#4 .evqEmpty s else result 0x5#4 .ok (evqPop s))

/-- CLR_CNT (R242). -/
def execClrCnt (s : State) : StepResult := .next (result 0x6#4 .ok { s with cnt := .zero })

/-- A word that is not well formed is refused whole (R233). -/
def execBadCmd (d : Word) (s : State) : StepResult := .next (result (cmdOp d) .badCmd s)

/-- `Exec(d)` (R231): the command in a word written to CMD. -/
def runCommand (d : Word) (s : State) : StepResult :=
  if wordWellFormed d then
    match (cmdOp d).toNat with
    | 0 => execNop s
    | 1 => execSend (cmdType d) s
    | 2 => execSchedStart (cmdType d) s
    | 3 => execSchedAdjust s
    | 4 => execSchedStop s
    | 5 => execEvtPop s
    | 6 => execClrCnt s
    | _ => execBadCmd d s
  else execBadCmd d s

end Sys2Proof.Machine
end

