-- ==== Sys2Proof/Machine/Access.lean ====
section
/-! DEFINITION. The register map (10_state.md R38 to R61) and the meanings of the bus rows RD and WR (45_commands.md
R243, R244). A register's word index is its byte address over 4. -/

namespace Sys2Proof.Machine

/-- A counter by its place in the map, from 0x80 up (R59). -/
def counterAt (c : Counters) (n : Nat) : Word :=
  match n with
  | 0 => c.rxFrame
  | 1 => c.syncErr
  | 2 => c.typeErr
  | 3 => c.lenErr
  | 4 => c.malLen
  | 5 => c.drop
  | 6 => c.late
  | 7 => c.timeout
  | 8 => c.fault
  | 9 => c.txFrame
  | 10 => c.schedSkip
  | 11 => c.schedOvr
  | _ => 0

/-- `RegRead(S, widx)` (R61); CMD and unmapped words read 0 (R41, R60). No word shows `sch_pay`: 44_scheduler.md R219
counts it among the fields that can be read back by R52, and R52 says that it cannot (DEDUCED, assumption 22). -/
def regRead (s : State) (w : WordIdx) : Word :=
  match w.toNat with
  | 0 => (flag s.ctl.irqEn).zeroExtend 32
  | 1 => statusWord s
  | 2 => 0
  | 3 => s.ctl.cmdResult
  | 4 => s.ctl.argTimeout
  | 5 => s.ctl.argRate
  | 6 => payWord s.ctl.argPay 0
  | 7 => payWord s.ctl.argPay 1
  | 8 => payWord s.ctl.argPay 2
  | 9 => txStatusWord s
  | 10 => dfStatusWord s
  | 11 => s.df.len
  | 12 => s.df.pcnt
  | 13 => lastHdrWord s
  | 14 => payWord s.last.pay 0
  | 15 => payWord s.last.pay 1
  | 16 => payWord s.last.pay 2
  | 17 => evqStatusWord s
  | 18 => headField s evtInfoWord
  | 19 => headField s (·.id)
  | 20 => headField s (payWord ·.data 0)
  | 21 => headField s (payWord ·.data 1)
  | 22 => headField s (payWord ·.data 2)
  | 23 => schInfoWord s
  | 24 => s.sch.rate
  | 25 => s.sch.acc
  | 26 => s.sch.timeout
  | 27 => regStatusWord s
  | 28 => s.ctl.regSel.zeroExtend 32
  | 29 => entField s entInfoWord
  | 30 => entField s (·.id)
  | 31 => entField s (·.cnt)
  | n => counterAt s.cnt (n - 32)

/-- The store of a write to a word other than CMD; a write to a read-only or unmapped word stores nothing (R56). -/
def regStore (w : WordIdx) (d : Word) (s : State) : State :=
  match w.toNat with
  | 0 => { s with ctl := { s.ctl with irqEn := d.getLsbD 0 } }
  | 4 => { s with ctl := { s.ctl with argTimeout := d } }
  | 5 => { s with ctl := { s.ctl with argRate := d } }
  | 6 => { s with ctl := { s.ctl with argPay := setPayWord s.ctl.argPay 0 d } }
  | 7 => { s with ctl := { s.ctl with argPay := setPayWord s.ctl.argPay 1 d } }
  | 8 => { s with ctl := { s.ctl with argPay := setPayWord s.ctl.argPay 2 d } }
  | 28 => { s with ctl := { s.ctl with regSel := d.extractLsb' 0 8 } }
  | _ => s

/-- RD (R243): the register's value on `bus_rdata`, and nothing else. -/
def execRd (w : WordIdx) (s : State) : StepResult :=
  .next { s with out := { s.out with busRdata := regRead s w } }

/-- WR (R244): `RegWrite(w, d)` (R61), a store, or the command for CMD. -/
def execWr (w : WordIdx) (d : Word) (s : State) : StepResult :=
  if w = cmdIdx then runCommand d s else .next (regStore w d s)

end Sys2Proof.Machine
end

