-- ==== Sys2Proof/Machine/Deframer.lean ====
section
/-! DEFINITION. The deframer's operations (41_deframer.md R144, R145 and the arms of R146). Which of them a
received byte runs is Machine/Receive.lean's. -/

namespace Sys2Proof.Machine

/-- `StartFrame(b)` (R144). -/
def startFrame (b : Byte) (s : State) : State :=
  { s with df :=
      { state := .readingHeader, pend := false, hcnt := 1, res := Res.zero.set 0 b, dtype := 0, lcnt := 0, len := 0,
        pcnt := 0, pay := Pay.zero } }

/-- `GoIdle()` (R145). -/
def goIdle (s : State) : State := { s with df := { s.df with state := .awaitingSync, pend := false } }

/-- `df_pend` written. -/
def setPend (b : Bool) (s : State) : State := { s with df := { s.df with pend := b } }

/-- A reserved byte stored (R150, R153). -/
def storeReserved (v : Byte) (s : State) : State :=
  { s with df := { s.df with res := s.df.res.setIfInBounds s.df.hcnt v, hcnt := s.df.hcnt + 1 } }

/-- A length byte shifted in (R155). -/
def shiftLength (v : Byte) (s : State) : State :=
  { s with df := { s.df with len := s.df.len <<< 8 ||| v.zeroExtend 32, lcnt := s.df.lcnt + 1 } }

/-- A payload byte counted, and stored if it is one of the first `PAY_MAX` (R158). -/
def storePayload (v : Byte) (s : State) : State :=
  { s with df :=
      { s.df with
        pay := if s.df.pcnt.toNat < PAY_MAX then s.df.pay.setIfInBounds s.df.pcnt.toNat v else s.df.pay
        pcnt := s.df.pcnt + 1 } }

/-- `df_type <- v; df_hcnt <- 4` (R146). -/
def storeType (v : Byte) (s : State) : State := { s with df := { s.df with dtype := v, hcnt := 4 } }

/-- A recognised data type goes on to the length (R154). -/
def acceptType (v : Byte) (s : State) : State :=
  let s := storeType v s
  { s with df := { s.df with state := .readingLength } }

/-- InvalidDataType (R154). -/
def rejectType (v : Byte) (s : State) : State :=
  let s := storeType v s
  goIdle { s with cnt := s.cnt.incTypeErr }

/-- Whether the length field is the size of the data type (R156, R159, R160). -/
def lengthFits (sz : Option Nat) (s : State) : Bool := decide (sz = some s.df.len.toNat)

/-- `Emit()` (R159). -/
def emit (s : State) : State :=
  { s with
    slot := { full := true, dtype := s.df.dtype, res := s.df.res, pay := s.df.pay }
    last := { res := s.df.res, dtype := s.df.dtype, pay := s.df.pay }
    cnt := s.cnt.incRxFrame }

/-- `Complete()` for a frame whose type has the given size (R159, R160). -/
def complete (sz : Option Nat) (s : State) : State :=
  goIdle (if lengthFits sz s then emit s else { s with cnt := s.cnt.incLenErr })

/-- The length field has been read (R156, R157). -/
def checkLength (sz : Option Nat) (s : State) : State :=
  let s := if lengthFits sz s then s else { s with cnt := s.cnt.incMalLen }
  if s.df.len = 0 then complete sz s else { s with df := { s.df with state := .readingPayload } }

end Sys2Proof.Machine
end

