-- ==== Sys2Proof/Machine/Dispatcher.lean ====
section
/-! DEFINITION. What the dispatcher does with a frame in the slot (42_dispatcher.md). -/

namespace Sys2Proof.Machine

/-- The slot emptied; its other fields keep their values (R178). -/
def emptySlot (s : State) : State := { s with slot := { s.slot with full := false } }

/-- The event of a response frame (R177). -/
def responseEvent (code : Byte) (m : Bool) (k : Kind) (p : Pay) : Event :=
  { code := code, matched := m, kind := k, id := ident p, data := p }

/-- A response of kind `k` in the slot: stall while the queue is full (R179); else cancel its entry, count it late
if there is none, push its event and empty the slot (R178). -/
def respond (code : Byte) (k : Kind) (s : State) : State :=
  if evqHasRoom s then
    let (s', m) := regMatchRemove k (ident s.slot.pay) s
    let s'' := if m then s' else { s' with cnt := s'.cnt.incLate }
    emptySlot (evqPush (responseEvent code m k s.slot.pay) s'')
  else s

/-- A frame with no handler is dropped and counted (R182). -/
def dropFrame (s : State) : State := emptySlot { s with cnt := s.cnt.incDrop }

end Sys2Proof.Machine
end

