-- ==== Sys2Proof/Machine/Frames.lean ====
section
/-! DEFINITION. The meanings of the FRAME rows: what the block does with a received frame of each data type, at each
stage of the receive path (30_encoding.md R93, R106; 41_deframer.md R154 to R160; 42_dispatcher.md R172). That a
frame of a type is sent is SEND's and SCHED_START's meaning. -/

namespace Sys2Proof.Machine

/-- TELECOMMAND_REQUEST: the ground side has no handler for a request (R182). -/
def execTelecommandRequest (st : FrameStage) (s : State) : StepResult :=
  match st with
  | .typed => .next (acceptType 1#8 s)
  | .lengthRead => .next (checkLength (size 1#8) s)
  | .completed => .next (complete (size 1#8) s)
  | .dispatched => .next (dropFrame s)

/-- TELECOMMAND_RESPONSE: cancels a TC entry, event 0x02 (R172). -/
def execTelecommandResponse (st : FrameStage) (s : State) : StepResult :=
  match st with
  | .typed => .next (acceptType 2#8 s)
  | .lengthRead => .next (checkLength (size 2#8) s)
  | .completed => .next (complete (size 2#8) s)
  | .dispatched => .next (respond 0x02#8 .tc s)

/-- TELEMETRY_DATA: cancels a TM entry, event 0x03 (R172). -/
def execTelemetryData (st : FrameStage) (s : State) : StepResult :=
  match st with
  | .typed => .next (acceptType 3#8 s)
  | .lengthRead => .next (checkLength (size 3#8) s)
  | .completed => .next (complete (size 3#8) s)
  | .dispatched => .next (respond 0x03#8 .tm s)

/-- TELEMETRY_REQUEST: the ground side has no handler for a request (R182). -/
def execTelemetryRequest (st : FrameStage) (s : State) : StepResult :=
  match st with
  | .typed => .next (acceptType 4#8 s)
  | .lengthRead => .next (checkLength (size 4#8) s)
  | .completed => .next (complete (size 4#8) s)
  | .dispatched => .next (dropFrame s)

/-- TELEMETRY_REQUEST_REJECTION: cancels a TM entry, event 0x07 (R172, R175). -/
def execTelemetryRequestRejection (st : FrameStage) (s : State) : StepResult :=
  match st with
  | .typed => .next (acceptType 7#8 s)
  | .lengthRead => .next (checkLength (size 7#8) s)
  | .completed => .next (complete (size 7#8) s)
  | .dispatched => .next (respond 0x07#8 .tm s)

/-- FILE_UPLOAD (reserved): recognised at the header check; without a size, always MalformedLengthField, then
LengthMismatch (R106). No such frame reaches the slot; the dispatcher's rule drops every type that is no response
(R178). -/
def execFileUpload (st : FrameStage) (s : State) : StepResult :=
  match st with
  | .typed => .next (acceptType 5#8 s)
  | .lengthRead => .next (checkLength (size 5#8) s)
  | .completed => .next (complete (size 5#8) s)
  | .dispatched => .next (dropFrame s)

/-- FILE_DOWNLOAD (reserved), as FILE_UPLOAD (R106). -/
def execFileDownload (st : FrameStage) (s : State) : StepResult :=
  match st with
  | .typed => .next (acceptType 6#8 s)
  | .lengthRead => .next (checkLength (size 6#8) s)
  | .completed => .next (complete (size 6#8) s)
  | .dispatched => .next (dropFrame s)

/-- INVALID_DATA_TYPE: the frame is discarded at the header check (R154). The later stages are those R146 and R178
give any type without a size; no run from reset takes them. -/
def execInvalidDataType (t : Byte) (st : FrameStage) (s : State) : StepResult :=
  match st with
  | .typed => .next (rejectType t s)
  | .lengthRead => .next (checkLength none s)
  | .completed => .next (complete none s)
  | .dispatched => .next (dropFrame s)

end Sys2Proof.Machine
end

