-- ==== Sys2Proof/Machine/Dispatch.lean ====
section
/-! DEFINITION. One arm per row of spec/opcode_table.json. -/

namespace Sys2Proof.Machine

def exec (i : Instr) (s : State) : Host.Outcome State Fault Refusal :=
  match i with
  | .nop => Sys2Proof.Machine.execNop s
  | .send t => Sys2Proof.Machine.execSend t s
  | .schedStart t => Sys2Proof.Machine.execSchedStart t s
  | .schedAdjust => Sys2Proof.Machine.execSchedAdjust s
  | .schedStop => Sys2Proof.Machine.execSchedStop s
  | .evtPop => Sys2Proof.Machine.execEvtPop s
  | .clrCnt => Sys2Proof.Machine.execClrCnt s
  | .badCmd d => Sys2Proof.Machine.execBadCmd d s
  | .rd w => Sys2Proof.Machine.execRd w s
  | .wr w d => Sys2Proof.Machine.execWr w d s
  | .telecommandRequest st => Sys2Proof.Machine.execTelecommandRequest st s
  | .telecommandResponse st => Sys2Proof.Machine.execTelecommandResponse st s
  | .telemetryData st => Sys2Proof.Machine.execTelemetryData st s
  | .telemetryRequest st => Sys2Proof.Machine.execTelemetryRequest st s
  | .telemetryRequestRejection st => Sys2Proof.Machine.execTelemetryRequestRejection st s
  | .fileUpload st => Sys2Proof.Machine.execFileUpload st s
  | .fileDownload st => Sys2Proof.Machine.execFileDownload st s
  | .invalidDataType t st => Sys2Proof.Machine.execInvalidDataType t st s

end Sys2Proof.Machine
end

