-- ==== Sys2Proof/Machine/Receive.lean ====
section
/-! DEFINITION. The receive path: what one received byte does (41_deframer.md R146), and the dispatcher's phase
(42_dispatcher.md R178). Where what happens depends on the data type, the FRAME row of that type is executed. -/

namespace Sys2Proof.Machine

/-- The instruction at a place of the block, executed; nothing where there is none. -/
def runAt (e : Site) (s : State) : StepResult :=
  match decode e with
  | .ok i => exec i s
  | .error .noAccess => .next s

/-- `Accept(v)` of R146. It is called in no other state than the three reading ones. -/
def accept (v : Byte) (s : State) : StepResult :=
  match s.df.state with
  | .awaitingSync => .next s
  | .readingHeader =>
    if s.df.hcnt < 3 then .next (storeReserved v s) else runAt (.dataType v .typed) s
  | .readingLength =>
    let s := shiftLength v s
    if s.df.lcnt = 4 then runAt (.dataType s.df.dtype .lengthRead) s else .next s
  | .readingPayload =>
    let s := storePayload v s
    if s.df.pcnt = s.df.len then runAt (.dataType s.df.dtype .completed) s else .next s

/-- `DfStep(b)` (R146). -/
def dfStep (b : Byte) (s : State) : StepResult :=
  match s.df.state with
  | .awaitingSync =>
    if b = SYNC then .next (setPend (!s.df.pend) s)
    else if s.df.pend then .next (startFrame b s)
    else .next s
  | .readingHeader | .readingLength | .readingPayload =>
    match decide (b = SYNC), s.df.pend with
    | true, false => .next (setPend true s)
    | true, true => accept SYNC (setPend false s)
    | false, true => .next (startFrame b { s with cnt := s.cnt.incSyncErr })
    | false, false => accept b s

/-- `Dispatch(s)` (R178): the frame in the slot, if any. -/
def dispatchSlot (s : State) : StepResult :=
  if s.slot.full then runAt (.dataType s.slot.dtype .dispatched) s else .next s

end Sys2Proof.Machine
end

