-- ==== Sys2Proof/Machine/Cycle.lean ====
section
/-! DEFINITION. One cycle of the block (10_state.md R23, R62): the outputs from the start state, then the phases P0 to
P8 in order; and how an instruction is put where the next cycle reads it. -/

namespace Sys2Proof.Machine

/-- The outputs of R23 in a cycle without reset, but for `bus_rdata`, which a Read executed in the cycle writes;
`none` where R127 gives `tx_byte` no value. -/
def portOutputs (s : State) : Option CycleOut :=
  if s.tx.active then
    (txByte s.tx).map fun b =>
      { busRdata := 0, rxReady := !s.slot.full, txValid := true, txByte := b, irq := irqLevel s }
  else some { busRdata := 0, rxReady := !s.slot.full, txValid := false, txByte := 0, irq := irqLevel s }

/-- A Read access sees the start-of-cycle state (20_memory.md R72). -/
def readPhase (op : BusOp) (s : State) : StepResult :=
  match op with
  | .read w => runAt (.bus (.read w)) s
  | .idle | .write _ _ => .next s

/-- P1. -/
def tickPhase (i : CycleIn) (s : State) : State := if i.tick then schedTick (regCountdown s) else s

/-- P2; `wasActive` is `S.tx_active` of the start state. -/
def sendPhase (i : CycleIn) (wasActive : Bool) (s : State) : State :=
  if wasActive && i.txReady then txAdvance s else s

/-- P3: a Write access (20_memory.md R73). -/
def writePhase (op : BusOp) (s : State) : StepResult :=
  match op with
  | .write w d => runAt (.bus (.write w d)) s
  | .idle | .read _ => .next s

/-- P5; `wasFull` is `S.slot_full` of the start state. -/
def receivePhase (i : CycleIn) (wasFull : Bool) (s : State) : StepResult :=
  if i.rxValid && !wasFull then dfStep i.rxByte s else .next s

/-- P7. -/
def faultPhase (i : CycleIn) (s : State) : State := if i.txErrValid then faultCapture i.txErrCode s else s

/-- P8. -/
def pushPhase (s : State) : State := faultPush (timeoutPush s)

/-- What comes before P3: the outputs, the Read, P1 and P2. -/
def beforeWrite (i : CycleIn) (o : CycleOut) (s : State) : StepResult :=
  andThen (readPhase i.busOp { s with out := o }) fun t => .next (sendPhase i s.tx.active (tickPhase i t))

/-- What comes after P3: P4 to P8. `wasFull` is `S.slot_full` of the start state. -/
def afterWrite (i : CycleIn) (wasFull : Bool) (s : State) : StepResult :=
  andThen (receivePhase i wasFull (schedService s)) fun t =>
    andThen (dispatchSlot t) fun u => .next (pushPhase (faultPhase i u))

/-- One cycle with the inputs `i` (R62). In a reset cycle the outputs are 0 and nothing else happens (R23,
70_reset_and_hazards.md R281). -/
def cycle (i : CycleIn) (s : State) : StepResult :=
  if i.rst then .next (State.resetWith s.cfg s.inputs)
  else
    match portOutputs s with
    | none => .fault .noTransmitByte
    | some o =>
      andThen (beforeWrite i o s) fun t =>
        andThen (writePhase i.busOp t) fun u => afterWrite i s.slot.full u

/-- The inputs of the next cycle; IDLE when none are listed (assumption 1). -/
def nextInput (s : State) : CycleIn := s.inputs.headD CycleIn.idle

/-- The state with the next cycle's inputs taken off the list. -/
def takeInput (s : State) : State := { s with inputs := s.inputs.tail }

/-- `s` with an instruction where the next cycle reads it: a bus access on the port, or a data-type byte offered to
a deframer that has taken the three reserved bytes (and, for the byte `SYNC`, the first half of its escape pair). -/
def placeAt (e : Site) (s : State) : State :=
  match e with
  | .bus op => { s with inputs := { CycleIn.idle with busOp := op } :: s.inputs.tail }
  | .dataType t _ =>
    { s with
      df := { s.df with state := .readingHeader, hcnt := 3, pend := decide (t = SYNC) }
      slot := { s.slot with full := false }
      inputs := { CycleIn.idle with rxValid := true, rxByte := t } :: s.inputs.tail }

/-- `s` with a table word placed; a width the table does not use places nothing. -/
def placeTableWord (nbits w : Nat) (s : State) : State :=
  match tableSite nbits w with
  | some e => placeAt e s
  | none => s

end Sys2Proof.Machine
end

