-- ==== Sys2Proof/Machine/Step.lean ====
section
/-! DEFINITION. The step of the machine: one cycle of the block. -/

namespace Sys2Proof.Machine

/-- One cycle, with the inputs the environment drives in it. -/
def step (s : State) : Host.Outcome State Fault Refusal := cycle (nextInput s) (takeInput s)

/-- `s` with a word of the opcode table where the next step reads it (assumption 5). -/
def State.withFetchWord (s : State) (nbits w : Nat) : State := placeTableWord nbits w s

end Sys2Proof.Machine
end

