-- ==== Sys2Proof/Safety.lean ====
section
/-! DEFINITION. The terms claims about runs are stated in: the invariants of a state at the start of a cycle
(10_state.md R37 and the ranges of its state tables), the bytes a deframer takes, the bytes a transmit engine has
still to send, and the ticks of a scheduler. -/

namespace Sys2Proof.Machine

/-! ### Sets of codes -/

/-- `Recognised` (30_encoding.md R95). -/
def recognisedTypes : List Byte := [1#8, 2#8, 3#8, 4#8, 5#8, 6#8, 7#8]

/-- `Encodable` (R95). -/
def encodableTypes : List Byte := [1#8, 2#8, 3#8, 4#8, 7#8]

/-- The data types of responses (42_dispatcher.md R172). -/
def responseTypes : List Byte := [2#8, 3#8, 7#8]

/-- The event codes that are ever pushed (30_encoding.md R104). -/
def eventCodes : List Byte := [0x02#8, 0x03#8, 0x07#8, 0x80#8, 0x81#8]

/-- The FRAME rows that stand for one data type, each with its code (R93). -/
def frameRows : List (Byte × (FrameStage → Instr)) :=
  [(1#8, .telecommandRequest), (2#8, .telecommandResponse), (3#8, .telemetryData), (4#8, .telemetryRequest),
    (5#8, .fileUpload), (6#8, .fileDownload), (7#8, .telemetryRequestRejection)]

/-- The FRAME rows of the responses, each with its event code and the kind it cancels (42_dispatcher.md R172). -/
def responseRows : List (Byte × Kind × (FrameStage → Instr)) :=
  [(0x02#8, .tc, .telecommandResponse), (0x03#8, .tm, .telemetryData), (0x07#8, .tm, .telemetryRequestRejection)]

/-- The fields a frame's end leaves in the deframer: idle, the last parse still visible (41_deframer.md R145). -/
def idleDeframer (d : Deframer) : Deframer := { d with state := .awaitingSync, pend := false }

/-- The deframer right after `StartFrame(b)` (R144). -/
def startedDeframer (b : Byte) : Deframer :=
  { state := .readingHeader, pend := false, hcnt := 1, res := #v[b, 0#8, 0#8], dtype := 0, lcnt := 0, len := 0,
    pcnt := 0, pay := Vector.replicate 12 0 }

/-! ### The invariant of a state at the start of a cycle -/

/-- The deframer's counters are where its state says (10_state.md R25, R26; 41_deframer.md R146). -/
def dfInv (d : Deframer) : Prop :=
  d.hcnt ≤ 4 ∧ d.lcnt ≤ 4 ∧
    match d.state with
    | .awaitingSync => True
    | .readingHeader => 1 ≤ d.hcnt ∧ d.hcnt ≤ 3 ∧ d.lcnt = 0 ∧ d.pcnt = 0
    | .readingLength => d.hcnt = 4 ∧ d.lcnt ≤ 3 ∧ d.pcnt = 0 ∧ d.dtype ∈ recognisedTypes
    | .readingPayload => d.hcnt = 4 ∧ d.lcnt = 4 ∧ d.pcnt < d.len ∧ d.dtype ∈ recognisedTypes

/-- A frame being sent is one the encoder can build and its index lies in it (R25, R29); an idle engine has no
escape byte pending (R37 item 7). -/
def txInv (t : TxEngine) : Prop :=
  t.idx ≤ 21 ∧ (t.active = false → t.esc = false) ∧
    (t.active = true → ∃ n, size t.dtype = some n ∧ t.idx < 9 + n)

/-- Registry entries (R30, R37 items 1 and 2): a live entry has ticks left and an expired one has none. -/
def regInv (c : Config) (reg : List Entry) : Prop :=
  reg.length ≤ c.regDepth ∧ ∀ e ∈ reg, e.expired = decide (e.cnt = 0)

/-- The event queue (R31, R37 item 1) and its codes (R104). -/
def evqInv (c : Config) (evq : List Event) : Prop :=
  evq.length ≤ c.evqDepth ∧ ∀ e ∈ evq, e.code ∈ eventCodes

/-- The scheduler (R33, R37 item 3); without a session the phase is 0 (45_commands.md R240). -/
def schInv (c : Config) (t : Scheduler) : Prop :=
  t.acc.toNat < c.thresh ∧
    (t.active = true → t.dtype ∈ encodableTypes ∧ 1 ≤ t.rate.toNat ∧ t.rate.toNat ≤ c.thresh) ∧
    (t.active = false → t.acc = 0)

/-- The invariant of a state at the start of a cycle. The last three parts say what can still wait there: a resend
only for the wire (R37 item 4), a frame in the slot and a Transport fault only for room in the event queue
(42_dispatcher.md R179, R183; 60_exceptions.md R267). -/
structure BlockInv (s : State) : Prop where
  cfg : s.cfg.legal = true
  df : dfInv s.df
  tx : txInv s.tx
  reg : regInv s.cfg s.reg
  evq : evqInv s.cfg s.evq
  sch : schInv s.cfg s.sch
  result : s.ctl.cmdResult.toNat < 2 ^ 12
  resendWaits : s.sch.tickPend = true → s.tx.active = true ∧ s.sch.active = true
  slotWaits : s.slot.full = true → s.slot.dtype ∈ responseTypes ∧ s.evq.length = s.cfg.evqDepth
  faultWaits : s.flt.pend = true → s.evq.length = s.cfg.evqDepth

/-! ### Unused payload bytes -/

/-- Every payload byte from index `n` up is 0. -/
def zeroFrom (n : Nat) (p : Pay) : Prop := ∀ i : Fin 12, n ≤ i.val → p[i] = 0

/-- The deframer's payload buffer is 0 above the bytes it has taken in this frame (41_deframer.md R144, R158). -/
def dfPadding (d : Deframer) : Prop :=
  match d.state with
  | .awaitingSync => True
  | .readingHeader | .readingLength => d.pcnt = 0 ∧ zeroFrom 0 d.pay
  | .readingPayload => zeroFrom d.pcnt.toNat d.pay

/-- Unused payload bytes are 0: in the deframer, and above `SIZE` of the type in the slot (10_state.md R27), the last-frame
capture (41_deframer.md R159), the transmit engine (R29) and the session (45_commands.md R238), and in every
response event (42_dispatcher.md R177). -/
structure PaddingInv (s : State) : Prop where
  df : dfPadding s.df
  slot : zeroFrom ((size s.slot.dtype).getD 0) s.slot.pay
  last : zeroFrom ((size s.last.dtype).getD 0) s.last.pay
  tx : zeroFrom ((size s.tx.dtype).getD 0) s.tx.pay
  sch : zeroFrom ((size s.sch.dtype).getD 0) s.sch.pay
  evq : ∀ e ∈ s.evq, e.code ∈ responseTypes → zeroFrom ((size e.code).getD 0) e.data

/-! ### The fate of registry entries -/

/-- From a registry `reg` and a queue `evq` to the state `u`, each entry that is gone was either answered, being
live, by exactly one event with `matched` set, or timed out, being expired, by exactly one timeout event; the others
stay in order, and the queue has only grown at its tail (42_dispatcher.md R184). -/
def EntriesResolved (reg : List Entry) (evq : List Event) (u : State) : Prop :=
  ∃ (answered timedOut : List Entry) (new : List Event),
    u.evq = evq ++ new ∧ reg.Perm (answered ++ timedOut ++ u.reg) ∧ u.reg.Sublist reg ∧
    (∀ e ∈ answered, e.expired = false) ∧ (∀ e ∈ timedOut, e.expired = true) ∧
    (new.filter (·.matched)).map (fun v => (v.kind, v.id)) = answered.map (fun e => (e.kind, e.id)) ∧
    (new.filter (fun v => decide (v.code = 0x80#8))).map (fun v => (v.kind, v.id)) =
      timedOut.map (fun e => (e.kind, e.id))

/-! ### Streams -/

/-- The deframer takes a sequence of bytes, one `DfStep` each. -/
def receiveAll : List Byte → State → StepResult
  | [], s => .next s
  | b :: bs, s => andThen (dfStep b s) (receiveAll bs)

/-- The frames emitted while a sequence of bytes is taken, in order: after each byte that makes CNT_RX_FRAME count,
the frame LAST_* shows. -/
def emittedFrames : List Byte → State → List LastFrame
  | [], _ => []
  | b :: bs, s =>
    match dfStep b s with
    | .next t => (if t.cnt.rxFrame = s.cnt.rxFrame then [] else [t.last]) ++ emittedFrames bs t
    | .fault _ => []
    | .refused _ => []

/-- The frame a receiver shows for a frame the encoder sent. -/
def sentFrame (t : Byte) (p : Pay) : LastFrame :=
  { res := #v[0xDE#8, 0xAD#8, 0xBE#8], dtype := t, pay := snapshot t p }

/-- The wire bytes of a list of frames, back to back; a type without a frame adds none. -/
def wireStream (fs : List (Byte × Pay)) : List Byte := fs.flatMap fun f => (wireFrame f.1 f.2).getD []

/-- The bytes an engine offers in its next `n` sends (40_encoder.md R127, R128). -/
def sentBytes : Nat → State → List Byte
  | 0, _ => []
  | n + 1, s => (txByte s.tx).toList ++ sentBytes n (txAdvance s)

/-- The state after `n` sends. -/
def afterSends : Nat → State → State
  | 0, s => s
  | n + 1, s => afterSends n (txAdvance s)

/-- The wire bytes an engine has still to send, from its raw frame, its index and its escape flag. -/
def remainingBytes (tx : TxEngine) : List Byte :=
  match rawFrame tx.dtype tx.pay with
  | none => []
  | some raw =>
    if tx.active then
      if tx.esc then SYNC :: (raw.drop (tx.idx + 1)).flatMap stuffByte
      else if tx.idx = 0 then stuff raw
      else (raw.drop tx.idx).flatMap stuffByte
    else []

/-- The scheduler's state after `k` ticks with nothing else happening. -/
def afterTicks : Nat → State → State
  | 0, s => s
  | k + 1, s => afterTicks k (schedTick s)

/-! ### Inputs -/

/-- No reset and no register write: the host only reads or is idle. -/
def CycleIn.quiet (i : CycleIn) : Bool :=
  !i.rst && (match i.busOp with | .write _ _ => false | .idle => true | .read _ => true)

/-- The environment of 60_exceptions.md R277: nothing at all is driven. -/
def CycleIn.still : CycleIn := { CycleIn.idle with txReady := false }

end Sys2Proof.Machine
end

