-- ==== Sys2Proof/Certificates/Slice0/Obligations.lean ====
section
/-! DEFINITION. The statements for the provers. Each is about the block as spec/ gives it: what an instruction of
the opcode table does and leaves alone, what a cycle does around it, and what every cycle keeps. The states and
parameters they range over are all of them unless a premise says otherwise.

Three fields of State are the model's own form of what the spec gives the step beside its state: `inputs` (the
environment's coming cycles, log entry 1), `out` (the outputs of the last cycle, log entry 2) and `cfg` (the
parameters, log entry 3). A FRAME row is stated at the stages of a frame's life (log entry 6). Where a statement
speaks of one of these, its form is the model's choice and its content the cited rules'. -/

open Sys2Proof Sys2Proof.Machine

/-! ### Encoding -/

/-- R100, R101, R93, R21: an instruction is read from a place exactly when it is well formed and the place is its
encoding, with every operand at every value. -/
def Obligations.DecodeInvertsEncode : Prop :=
  ∀ (i : Instr) (e : Site), decode e = .ok i ↔ i.wellFormed = true ∧ encode i = e

/-- Words written out from R100, R101 and R93 decode to the instructions they stand for. -/
def Obligations.TableWordsDecode : Prop :=
  decodeTableWord 32 0x00000000 = some .nop ∧ decodeTableWord 32 0x00000401 = some (.send 4#8) ∧
  decodeTableWord 32 0x00000402 = some (.schedStart 4#8) ∧ decodeTableWord 32 0x00000005 = some .evtPop ∧
  decodeTableWord 32 0x00000403 = some (.badCmd 0x403#32) ∧
  decodeTableWord 8 0x02 = some (.telecommandResponse .typed) ∧
  decodeTableWord 8 0x09 = some (.invalidDataType 9#8 .typed)

/-- R233: a word written to CMD that breaks one of the four conditions is refused with BAD_CMD and its opcode, and
nothing else changes; a word that meets them is decoded to a command other than BAD_CMD. The row's own meaning is
the refusal, whatever word it holds. -/
def Obligations.IllFormedWordIsRefused : Prop :=
  ∀ (d : Word) (s : State),
    ((d.toNat / 2 ^ 16 = 0 ∧ d.toNat / 16 % 16 = 0 ∧ d.toNat % 16 ≤ 6 ∧
        (d.toNat / 256 % 256 = 0 ∨ d.toNat % 16 = 1 ∨ d.toNat % 16 = 2)) →
      decodeCommand d ≠ .badCmd d) ∧
    (¬(d.toNat / 2 ^ 16 = 0 ∧ d.toNat / 16 % 16 = 0 ∧ d.toNat % 16 ≤ 6 ∧
        (d.toNat / 256 % 256 = 0 ∨ d.toNat % 16 = 1 ∨ d.toNat % 16 = 2)) →
      decodeCommand d = .badCmd d ∧
      exec (.wr 2#6 d) s =
        .next { s with ctl := { s.ctl with cmdResult := BitVec.ofNat 32 (d.toNat % 16 * 256 + 1) } }) ∧
    exec (.badCmd d) s =
      .next { s with ctl := { s.ctl with cmdResult := BitVec.ofNat 32 (d.toNat % 16 * 256 + 1) } }

/-- R231, R61: a write to CMD runs the command of its word. -/
def Obligations.WriteToCmdRunsItsCommand : Prop :=
  ∀ (d : Word) (s : State), exec (.wr 2#6 d) s = exec (decodeCommand d) s

/-! ### Commands -/

/-- R235. -/
def Obligations.NopSetsOnlyResult : Prop :=
  decodeCommand 0x00000000#32 = .nop ∧
  ∀ s : State, exec .nop s = .next { s with ctl := { s.ctl with cmdResult := 0x00000000#32 } }

/-- R236, R193, R126: SEND's checks in order, the first that fails giving the code and nothing else changed; an
accepted SEND registers a request, starts the frame and reports OK, and every other field of the state is
unchanged. -/
def Obligations.SendEffect : Prop :=
  ∀ (t : Byte) (s : State),
    decodeCommand (0#16 ++ t ++ 0x01#8) = .send t ∧
    (t ∉ encodableTypes →
      exec (.send t) s = .next { s with ctl := { s.ctl with cmdResult := 0x00000102#32 } }) ∧
    (t ∈ encodableTypes → (s.tx.active = true ∨ s.sch.tickPend = true) →
      exec (.send t) s = .next { s with ctl := { s.ctl with cmdResult := 0x00000103#32 } }) ∧
    (t = 1#8 ∨ t = 4#8 → s.tx.active = false → s.sch.tickPend = false → s.cfg.regDepth ≤ s.reg.length →
      exec (.send t) s = .next { s with ctl := { s.ctl with cmdResult := 0x00000104#32 } }) ∧
    (t ∈ encodableTypes → s.tx.active = false → s.sch.tickPend = false →
      (t = 1#8 ∨ t = 4#8 → s.reg.length < s.cfg.regDepth) →
      exec (.send t) s =
        .next
          { s with
            reg := s.reg ++
              (if t = 1#8 then
                [{ kind := .tc, id := payWord s.ctl.argPay 0, cnt := s.ctl.argTimeout
                   expired := decide (s.ctl.argTimeout = 0) }]
              else if t = 4#8 then
                [{ kind := .tm, id := payWord s.ctl.argPay 0, cnt := s.ctl.argTimeout
                   expired := decide (s.ctl.argTimeout = 0) }]
              else [])
            tx :=
              { active := true, dtype := t, pay := snapshot t s.ctl.argPay, idx := 0, esc := false, escCnt := 0 }
            ctl := { s.ctl with cmdResult := 0x00000100#32 } })

/-- R94, R126: the table of payload sizes, every other type having none; and the payload snapshot holds the first
`SIZE(t)` bytes and zeros above. -/
def Obligations.SnapshotKeepsSizeBytes : Prop :=
  (∀ (t : Byte) (n : Nat), size t = some n ↔ (t, n) ∈ [(1#8, 12), (2#8, 5), (3#8, 12), (4#8, 4), (7#8, 5)]) ∧
  ∀ (t : Byte) (p : Pay) (n : Nat), size t = some n →
    ∀ i : Fin 12, (snapshot t p)[i] = if i.val < n then p[i] else 0#8

/-- R238, R211, R222: SCHED_START's checks in order, a refusal leaving the session as it was; an accepted one
replaces the session whole, starts its phase at 0, discards a pending resend and sends nothing. -/
def Obligations.SchedStartEffect : Prop :=
  ∀ (t : Byte) (s : State),
    decodeCommand (0#16 ++ t ++ 0x02#8) = .schedStart t ∧
    (t ∉ encodableTypes →
      exec (.schedStart t) s = .next { s with ctl := { s.ctl with cmdResult := 0x00000202#32 } }) ∧
    (t ∈ encodableTypes → s.ctl.argRate = 0 →
      exec (.schedStart t) s = .next { s with ctl := { s.ctl with cmdResult := 0x00000205#32 } }) ∧
    (t ∈ encodableTypes → s.ctl.argRate ≠ 0 → s.cfg.thresh < s.ctl.argRate.toNat →
      exec (.schedStart t) s = .next { s with ctl := { s.ctl with cmdResult := 0x00000206#32 } }) ∧
    (t ∈ encodableTypes → s.ctl.argRate ≠ 0 → s.ctl.argRate.toNat ≤ s.cfg.thresh →
      exec (.schedStart t) s =
        .next
          { s with
            sch :=
              { active := true, dtype := t, pay := snapshot t s.ctl.argPay, timeout := s.ctl.argTimeout
                rate := s.ctl.argRate, acc := 0, tickPend := false }
            ctl := { s.ctl with cmdResult := 0x00000200#32 } })

/-- R239, R218: an accepted SCHED_ADJUST changes the rate alone (the phase and a pending resend are kept); its
checks in order otherwise. -/
def Obligations.SchedAdjustEffect : Prop :=
  decodeCommand 0x00000003#32 = .schedAdjust ∧
  ∀ s : State,
    (s.sch.active = true → s.ctl.argRate ≠ 0 → s.ctl.argRate.toNat ≤ s.cfg.thresh →
      exec .schedAdjust s =
        .next
          { s with
            sch := { s.sch with rate := s.ctl.argRate }
            ctl := { s.ctl with cmdResult := 0x00000300#32 } }) ∧
    (s.sch.active = false →
      exec .schedAdjust s = .next { s with ctl := { s.ctl with cmdResult := 0x00000307#32 } }) ∧
    (s.sch.active = true → s.ctl.argRate = 0 →
      exec .schedAdjust s = .next { s with ctl := { s.ctl with cmdResult := 0x00000305#32 } }) ∧
    (s.sch.active = true → s.ctl.argRate ≠ 0 → s.cfg.thresh < s.ctl.argRate.toNat →
      exec .schedAdjust s = .next { s with ctl := { s.ctl with cmdResult := 0x00000306#32 } })

/-- R240: SCHED_STOP ends the session and discards a resend not yet started, in every state; the registry, the
transmit engine and the session's other fields stay. With no session running, in a state with the block's invariant,
nothing but the result changes. -/
def Obligations.SchedStopEndsSession : Prop :=
  decodeCommand 0x00000004#32 = .schedStop ∧
  (∀ s : State,
    exec .schedStop s =
      .next
        { s with
          sch := { s.sch with active := false, acc := 0, tickPend := false }
          ctl := { s.ctl with cmdResult := 0x00000400#32 } }) ∧
  ∀ s : State, BlockInv s → s.sch.active = false →
    exec .schedStop s = .next { s with ctl := { s.ctl with cmdResult := 0x00000400#32 } }

/-- R241: EVT_POP removes the head event, or reports EVQ_EMPTY. -/
def Obligations.EvtPopRemovesHead : Prop :=
  decodeCommand 0x00000005#32 = .evtPop ∧
  ∀ s : State,
    (∀ (e : Event) (es : List Event), s.evq = e :: es →
      exec .evtPop s = .next { s with evq := es, ctl := { s.ctl with cmdResult := 0x00000500#32 } }) ∧
    (s.evq = [] →
      exec .evtPop s = .next { s with ctl := { s.ctl with cmdResult := 0x00000508#32 } })

/-- R242: CLR_CNT sets the twelve counters of R59 to 0 and leaves every other field, `enc_esc_cnt` among them. -/
def Obligations.ClrCntClearsTwelveCounters : Prop :=
  decodeCommand 0x00000006#32 = .clrCnt ∧
  ∀ s : State,
    exec .clrCnt s =
      .next
        { s with
          cnt :=
            { rxFrame := 0, syncErr := 0, typeErr := 0, lenErr := 0, malLen := 0, drop := 0, late := 0, timeout := 0
              fault := 0, txFrame := 0, schedSkip := 0, schedOvr := 0 }
          ctl := { s.ctl with cmdResult := 0x00000600#32 } }

/-- R232, R42: every word written to CMD completes and leaves CMD_RESULT holding the word's opcode in [15:8], a
result code of R102 in [7:0] and 0 above. -/
def Obligations.EveryCommandReports : Prop :=
  ∀ (d : Word) (s : State), ∃ u, exec (.wr 2#6 d) s = .next u ∧
    u.ctl.cmdResult.extractLsb' 16 16 = 0#16 ∧
    u.ctl.cmdResult.extractLsb' 8 8 = 0#4 ++ d.extractLsb' 0 4 ∧
    (u.ctl.cmdResult.extractLsb' 0 8).toNat ≤ 8

/-- R234: a command that does not report OK has changed CMD_RESULT and nothing else. -/
def Obligations.RefusedCommandChangesOnlyResult : Prop :=
  ∀ (d : Word) (s u : State), exec (.wr 2#6 d) s = .next u → u.ctl.cmdResult.extractLsb' 0 8 ≠ 0#8 →
    u = { s with ctl := { s.ctl with cmdResult := u.ctl.cmdResult } }

/-! ### Register access -/

/-- R243, R61: RD puts the register's value on `bus_rdata` and changes nothing else. R39, R41 to R44, R48, R54, R59,
R60: the words that show one field each, the counters in the order of the map, and the words that read 0. -/
def Obligations.ReadPutsRegisterOnBus : Prop :=
  ∀ s : State,
    (∀ w : WordIdx, exec (.rd w) s = .next { s with out := { s.out with busRdata := regRead s w } }) ∧
    regRead s 0#6 = (if s.ctl.irqEn then 0x00000001#32 else 0x00000000#32) ∧ regRead s 2#6 = 0x00000000#32 ∧
    regRead s 3#6 = s.ctl.cmdResult ∧ regRead s 4#6 = s.ctl.argTimeout ∧ regRead s 5#6 = s.ctl.argRate ∧
    regRead s 11#6 = s.df.len ∧ regRead s 12#6 = s.df.pcnt ∧ regRead s 28#6 = 0#24 ++ s.ctl.regSel ∧
    regRead s 32#6 = s.cnt.rxFrame ∧ regRead s 33#6 = s.cnt.syncErr ∧ regRead s 34#6 = s.cnt.typeErr ∧
    regRead s 35#6 = s.cnt.lenErr ∧ regRead s 36#6 = s.cnt.malLen ∧ regRead s 37#6 = s.cnt.drop ∧
    regRead s 38#6 = s.cnt.late ∧ regRead s 39#6 = s.cnt.timeout ∧ regRead s 40#6 = s.cnt.fault ∧
    regRead s 41#6 = s.cnt.txFrame ∧ regRead s 42#6 = s.cnt.schedSkip ∧ regRead s 43#6 = s.cnt.schedOvr ∧
    ∀ w : WordIdx, 44 ≤ w.toNat → regRead s w = 0x00000000#32

/-- R40: the fields of STATUS, in every state; writes to it are ignored, and it reads 0 after reset. -/
def Obligations.StatusFields : Prop :=
  ∀ s : State,
    (regRead s 1#6).extractLsb' 0 2 =
      (match s.df.state with
        | .awaitingSync => 0#2 | .readingHeader => 1#2 | .readingLength => 2#2 | .readingPayload => 3#2) ∧
    (regRead s 1#6).getLsbD 2 = s.df.pend ∧ (regRead s 1#6).getLsbD 3 = s.slot.full ∧
    (regRead s 1#6).getLsbD 4 = s.tx.active ∧ (regRead s 1#6).getLsbD 5 = s.tx.esc ∧
    (regRead s 1#6).getLsbD 6 = s.sch.active ∧ (regRead s 1#6).getLsbD 7 = s.sch.tickPend ∧
    (regRead s 1#6).getLsbD 8 = s.flt.pend ∧ (regRead s 1#6).getLsbD 9 = s.flt.code ∧
    (regRead s 1#6).getLsbD 10 = (s.ctl.irqEn && !s.evq.isEmpty) ∧
    (regRead s 1#6).extractLsb' 11 21 = 0#21 ∧
    (∀ d : Word, exec (.wr 1#6 d) s = .next s) ∧ regRead State.reset 1#6 = 0x00000000#32

/-- R46, R47, R49, R50, R52, R53: the fields of the packed read-only registers, and the last-frame and session
registers beside them. -/
def Obligations.PackedRegisterFields : Prop :=
  ∀ s : State,
    ((regRead s 9#6).extractLsb' 0 8 = s.tx.escCnt ∧ (regRead s 9#6).extractLsb' 8 8 = BitVec.ofNat 8 s.tx.idx ∧
      (regRead s 9#6).extractLsb' 16 8 = s.tx.dtype ∧ (regRead s 9#6).extractLsb' 24 8 = 0#8) ∧
    ((regRead s 10#6).extractLsb' 0 3 = BitVec.ofNat 3 s.df.hcnt ∧ (regRead s 10#6).getLsbD 3 = false ∧
      (regRead s 10#6).extractLsb' 4 3 = BitVec.ofNat 3 s.df.lcnt ∧ (regRead s 10#6).getLsbD 7 = false ∧
      (regRead s 10#6).extractLsb' 8 8 = s.df.dtype ∧ (regRead s 10#6).extractLsb' 16 16 = 0#16) ∧
    ((regRead s 13#6).extractLsb' 24 8 = s.last.res[0] ∧ (regRead s 13#6).extractLsb' 16 8 = s.last.res[1] ∧
      (regRead s 13#6).extractLsb' 8 8 = s.last.res[2] ∧ (regRead s 13#6).extractLsb' 0 8 = s.last.dtype) ∧
    ((regRead s 17#6).extractLsb' 0 16 = BitVec.ofNat 16 s.evq.length ∧
      (regRead s 17#6).extractLsb' 16 16 = 0#16) ∧
    ((regRead s 23#6).extractLsb' 0 8 = s.sch.dtype ∧
      (regRead s 23#6).getLsbD 8 = decide (s.sch.dtype = 1#8 ∨ s.sch.dtype = 2#8) ∧
      (regRead s 23#6).extractLsb' 9 23 = 0#23) ∧
    ((regRead s 27#6).extractLsb' 0 16 = BitVec.ofNat 16 s.reg.length ∧
      (regRead s 27#6).extractLsb' 16 16 = BitVec.ofNat 16 (s.reg.filter (·.expired)).length) ∧
    (∀ k : Fin 3, regRead s (BitVec.ofNat 6 (14 + k.val)) =
      s.last.pay[4 * k.val] ++ s.last.pay[4 * k.val + 1] ++ s.last.pay[4 * k.val + 2] ++
        s.last.pay[4 * k.val + 3]) ∧
    regRead s 24#6 = s.sch.rate ∧ regRead s 25#6 = s.sch.acc ∧ regRead s 26#6 = s.sch.timeout

/-- R51, R55: the event window shows the head record and the registry window the entry REG_SEL selects; both read 0
where there is none. -/
def Obligations.WindowsShowHeadAndSelectedEntry : Prop :=
  ∀ s : State,
    (s.evq = [] → ∀ k : Fin 5, regRead s (BitVec.ofNat 6 (18 + k.val)) = 0#32) ∧
    (∀ (h : Event) (es : List Event), s.evq = h :: es →
      (regRead s 18#6).extractLsb' 0 8 = h.code ∧ (regRead s 18#6).getLsbD 8 = h.matched ∧
      (regRead s 18#6).getLsbD 9 = decide (h.kind = .tc) ∧ (regRead s 18#6).extractLsb' 10 22 = 0#22 ∧
      regRead s 19#6 = h.id ∧
      ∀ k : Fin 3, regRead s (BitVec.ofNat 6 (20 + k.val)) =
        h.data[4 * k.val] ++ h.data[4 * k.val + 1] ++ h.data[4 * k.val + 2] ++ h.data[4 * k.val + 3]) ∧
    (s.reg.length ≤ s.ctl.regSel.toNat → ∀ k : Fin 3, regRead s (BitVec.ofNat 6 (29 + k.val)) = 0#32) ∧
    (∀ e : Entry, s.reg[s.ctl.regSel.toNat]? = some e →
      (regRead s 29#6).getLsbD 0 = true ∧ (regRead s 29#6).getLsbD 1 = decide (e.kind = .tc) ∧
      (regRead s 29#6).getLsbD 2 = e.expired ∧ (regRead s 29#6).extractLsb' 3 29 = 0#29 ∧
      regRead s 30#6 = e.id ∧ regRead s 31#6 = e.cnt)

/-- R56: what the host can write, register by register; a write to any other word but CMD changes no state. A write
to ARG_PAYLOADk replaces the bytes `4k` to `4k+3`, the word's most significant byte first (R45). -/
def Obligations.WritesReachOnlyWritableFields : Prop :=
  ∀ (d : Word) (s : State),
    exec (.wr 0#6 d) s = .next { s with ctl := { s.ctl with irqEn := d.getLsbD 0 } } ∧
    exec (.wr 4#6 d) s = .next { s with ctl := { s.ctl with argTimeout := d } } ∧
    exec (.wr 5#6 d) s = .next { s with ctl := { s.ctl with argRate := d } } ∧
    (∀ k : Fin 3, ∃ p : Pay,
      exec (.wr (BitVec.ofNat 6 (6 + k.val)) d) s = .next { s with ctl := { s.ctl with argPay := p } } ∧
      p[4 * k.val] = d.extractLsb' 24 8 ∧ p[4 * k.val + 1] = d.extractLsb' 16 8 ∧
      p[4 * k.val + 2] = d.extractLsb' 8 8 ∧ p[4 * k.val + 3] = d.extractLsb' 0 8 ∧
      ∀ i : Fin 12, i.val < 4 * k.val ∨ 4 * k.val + 4 ≤ i.val → p[i] = s.ctl.argPay[i]) ∧
    exec (.wr 28#6 d) s = .next { s with ctl := { s.ctl with regSel := d.extractLsb' 0 8 } } ∧
    ∀ w : WordIdx, w ∉ [0#6, 2#6, 4#6, 5#6, 6#6, 7#6, 8#6, 28#6] → exec (.wr w d) s = .next s

/-- R57: a writable field stores exactly the bits written and a reserved bit reads 0. R45, R80, R98: ARG_PAYLOADk
reads its four payload bytes big-endian, and the identifier of a payload is its first four bytes big-endian, so that
a word written to ARG_PAYLOAD0 is the identifier of the next request. -/
def Obligations.WrittenBitsReadBack : Prop :=
  (∀ (d : Word) (s : State),
    (∃ u, exec (.wr 0#6 d) s = .next u ∧ regRead u 0#6 = d &&& 0x00000001#32) ∧
    (∀ w ∈ [4#6, 5#6, 6#6, 7#6, 8#6], ∃ u, exec (.wr w d) s = .next u ∧ regRead u w = d) ∧
    (∃ u, exec (.wr 28#6 d) s = .next u ∧ regRead u 28#6 = d &&& 0x000000FF#32) ∧
    (∃ u, exec (.wr 6#6 d) s = .next u ∧ ident u.ctl.argPay = d) ∧
    ∀ k : Fin 3, regRead s (BitVec.ofNat 6 (6 + k.val)) =
      s.ctl.argPay[4 * k.val] ++ s.ctl.argPay[4 * k.val + 1] ++ s.ctl.argPay[4 * k.val + 2] ++
        s.ctl.argPay[4 * k.val + 3]) ∧
  ∀ p : Pay, ident p = p[0] ++ p[1] ++ p[2] ++ p[3] ∧ payWord p 0 = p[0] ++ p[1] ++ p[2] ++ p[3]

/-! ### Frame rows -/

/-- R154: at the header check a recognised type goes on to the length; any other is counted and the frame
discarded. -/
def Obligations.HeaderCheckByType : Prop :=
  (∀ r ∈ frameRows, ∀ s : State,
    exec (r.2 .typed) s =
      .next { s with df := { s.df with dtype := r.1, hcnt := 4, state := .readingLength } }) ∧
  (∀ (t : Byte) (s : State), t ∉ recognisedTypes →
    exec (.invalidDataType t .typed) s =
      .next
        { s with
          df := { s.df with dtype := t, hcnt := 4, state := .awaitingSync, pend := false }
          cnt := { s.cnt with typeErr := s.cnt.typeErr + 1 } })

/-- R156, R157: with the length read, a length that is not the type's size is counted; the payload follows, or at
length 0 the frame ends in LengthMismatch in the same step. -/
def Obligations.LengthCheckBySize : Prop :=
  ∀ r ∈ frameRows, ∀ s : State,
    (size r.1 = some s.df.len.toNat →
      exec (r.2 .lengthRead) s = .next { s with df := { s.df with state := .readingPayload } }) ∧
    (size r.1 ≠ some s.df.len.toNat → s.df.len ≠ 0 →
      exec (r.2 .lengthRead) s =
        .next
          { s with
            df := { s.df with state := .readingPayload }
            cnt := { s.cnt with malLen := s.cnt.malLen + 1 } }) ∧
    (s.df.len = 0 →
      exec (r.2 .lengthRead) s =
        .next
          { s with
            df := idleDeframer s.df
            cnt := { s.cnt with malLen := s.cnt.malLen + 1, lenErr := s.cnt.lenErr + 1 } })

/-- R159, R160: a frame at its end is emitted to the slot and the last-frame capture if its length is its type's
size; else it is counted and nothing is emitted. -/
def Obligations.CompletionEmitsOrCounts : Prop :=
  ∀ r ∈ frameRows, ∀ s : State,
    (size r.1 = some s.df.len.toNat →
      exec (r.2 .completed) s =
        .next
          { s with
            slot := { full := true, dtype := s.df.dtype, res := s.df.res, pay := s.df.pay }
            last := { res := s.df.res, dtype := s.df.dtype, pay := s.df.pay }
            df := idleDeframer s.df
            cnt := { s.cnt with rxFrame := s.cnt.rxFrame + 1 } }) ∧
    (size r.1 ≠ some s.df.len.toNat →
      exec (r.2 .completed) s =
        .next { s with df := idleDeframer s.df, cnt := { s.cnt with lenErr := s.cnt.lenErr + 1 } })

/-- R178, R179, R197, R206: a response in the slot waits while the queue is full; else it removes the earliest live
entry of its kind and identifier and no other, or is counted late, and its event joins the tail of the queue. -/
def Obligations.ResponseCancelsFirstLiveEntry : Prop :=
  ∀ r ∈ responseRows, ∀ s : State,
    (s.cfg.evqDepth ≤ s.evq.length → exec (r.2.2 .dispatched) s = .next s) ∧
    (∀ (before after : List Entry) (e : Entry), s.evq.length < s.cfg.evqDepth → s.reg = before ++ e :: after →
      (∀ x ∈ before, ¬(x.expired = false ∧ x.kind = r.2.1 ∧ x.id = payWord s.slot.pay 0)) →
      e.expired = false → e.kind = r.2.1 → e.id = payWord s.slot.pay 0 →
      exec (r.2.2 .dispatched) s =
        .next
          { s with
            reg := before ++ after
            evq := s.evq ++
              [{ code := r.1, matched := true, kind := r.2.1, id := payWord s.slot.pay 0, data := s.slot.pay }]
            slot := { s.slot with full := false } }) ∧
    (s.evq.length < s.cfg.evqDepth →
      (∀ x ∈ s.reg, ¬(x.expired = false ∧ x.kind = r.2.1 ∧ x.id = payWord s.slot.pay 0)) →
      exec (r.2.2 .dispatched) s =
        .next
          { s with
            evq := s.evq ++
              [{ code := r.1, matched := false, kind := r.2.1, id := payWord s.slot.pay 0, data := s.slot.pay }]
            cnt := { s.cnt with late := s.cnt.late + 1 }
            slot := { s.slot with full := false } })

/-- R182: a frame of type 1 or 4 in the slot is dropped and counted, and nothing else changes. That this is also what
the two request rows mean at the stage `dispatched`, whatever the slot holds, rests on the model's choice of stages
(DESIGN CHOICE, log entry 6). -/
def Obligations.RequestInSlotIsDropped : Prop :=
  ∀ s : State,
    (s.slot.full = true → s.slot.dtype = 1#8 ∨ s.slot.dtype = 4#8 →
      dispatchSlot s =
        .next
          { s with
            slot := { s.slot with full := false }
            cnt := { s.cnt with drop := s.cnt.drop + 1 } }) ∧
    (∀ i : Instr, i = .telecommandRequest .dispatched ∨ i = .telemetryRequest .dispatched →
      exec i s =
        .next
          { s with
            slot := { s.slot with full := false }
            cnt := { s.cnt with drop := s.cnt.drop + 1 } })

/-! ### The deframer -/

/-- R148, R149, R144: in AwaitingSync a sync byte toggles the pending flag, another byte after an unpaired sync
starts a frame, and any other byte is discarded. -/
def Obligations.IdleDeframerStep : Prop :=
  ∀ (b : Byte) (s : State), s.df.state = .awaitingSync →
    (b = 0x55#8 → dfStep b s = .next { s with df := { s.df with pend := !s.df.pend } }) ∧
    (b ≠ 0x55#8 → s.df.pend = true → dfStep b s = .next { s with df := startedDeframer b }) ∧
    (b ≠ 0x55#8 → s.df.pend = false → dfStep b s = .next s)

/-- R147, R151: inside a frame the four cases of de-stuffing, the same in every field. -/
def Obligations.DestuffingCases : Prop :=
  ∀ (b : Byte) (s : State), s.df.state ≠ .awaitingSync →
    (b = 0x55#8 → s.df.pend = false → dfStep b s = .next { s with df := { s.df with pend := true } }) ∧
    (b = 0x55#8 → s.df.pend = true → dfStep b s = accept 0x55#8 { s with df := { s.df with pend := false } }) ∧
    (b ≠ 0x55#8 → s.df.pend = true →
      dfStep b s =
        .next { s with df := startedDeframer b, cnt := { s.cnt with syncErr := s.cnt.syncErr + 1 } }) ∧
    (b ≠ 0x55#8 → s.df.pend = false → dfStep b s = accept b s)

/-- R150, R155, R158: a logical byte that does not end its field is stored and counted, and nothing else changes. -/
def Obligations.LogicalByteStored : Prop :=
  ∀ (v : Byte) (s : State),
    (∀ h : s.df.hcnt < 3, s.df.state = .readingHeader →
      accept v s = .next { s with df := { s.df with res := s.df.res.set s.df.hcnt v, hcnt := s.df.hcnt + 1 } }) ∧
    (s.df.state = .readingLength → s.df.lcnt < 3 →
      accept v s =
        .next
          { s with
            df :=
              { s.df with
                len := BitVec.ofNat 32 (s.df.len.toNat * 256 + v.toNat)
                lcnt := s.df.lcnt + 1 } }) ∧
    (∀ h : s.df.pcnt.toNat < 12, s.df.state = .readingPayload → s.df.pcnt + 1 ≠ s.df.len →
      accept v s =
        .next
          { s with df := { s.df with pay := s.df.pay.set s.df.pcnt.toNat v, pcnt := s.df.pcnt + 1 } }) ∧
    (12 ≤ s.df.pcnt.toNat → s.df.state = .readingPayload → s.df.pcnt + 1 ≠ s.df.len →
      accept v s = .next { s with df := { s.df with pcnt := s.df.pcnt + 1 } })

/-- R161: whatever the byte, the deframer answers, and only the deframer, the slot, the last-frame capture and the
five deframer counters can differ after it: no event, no registry change, no host state. -/
def Obligations.DeframerTouchesOnlyItsOwn : Prop :=
  ∀ (b : Byte) (s : State), ∃ u, dfStep b s = .next u ∧
    u = { s with
          df := u.df, slot := u.slot, last := u.last
          cnt :=
            { s.cnt with
              rxFrame := u.cnt.rxFrame, syncErr := u.cnt.syncErr, typeErr := u.cnt.typeErr
              lenErr := u.cnt.lenErr, malLen := u.cnt.malLen } }

/-- R163: the wire bytes of a frame the encoder sends, taken by a deframer with no escape pending, whatever it was
doing, put exactly that frame into the slot and the last-frame capture, leave the deframer idle, count one frame and
at most the one sync error of an interrupted frame; the frame is emitted by the last byte and not before. -/
def Obligations.DeframerRoundTrip : Prop :=
  ∀ (t : Byte) (p : Pay) (w : List Byte) (s : State), wireFrame t p = some w → s.df.pend = false →
    (∃ u, receiveAll w s = .next u ∧
      u.slot = { full := true, dtype := t, res := #v[0xDE#8, 0xAD#8, 0xBE#8], pay := snapshot t p } ∧
      u.last = sentFrame t p ∧ u.df.state = .awaitingSync ∧ u.df.pend = false ∧
      u.cnt =
        { s.cnt with
          rxFrame := s.cnt.rxFrame + 1
          syncErr := if s.df.state = .awaitingSync then s.cnt.syncErr else s.cnt.syncErr + 1 }) ∧
    (∃ v, receiveAll w.dropLast s = .next v ∧ v.slot = s.slot ∧ v.last = s.last ∧
      v.cnt.rxFrame = s.cnt.rxFrame)

/-- R164: noise without sync bytes, any number of frames back to back, and noise again give exactly those frames in
order, and no error is counted. -/
def Obligations.NoiseAndFramesGiveExactlyTheFrames : Prop :=
  ∀ (s : State) (noise noise' : List Byte) (fs : List (Byte × Pay)),
    s.df.state = .awaitingSync → s.df.pend = false → (∀ b ∈ noise, b ≠ 0x55#8) → (∀ b ∈ noise', b ≠ 0x55#8) →
    (∀ f ∈ fs, f.1 ∈ encodableTypes) →
    emittedFrames (noise ++ wireStream fs ++ noise') s = fs.map (fun f => sentFrame f.1 f.2) ∧
    ∃ u, receiveAll (noise ++ wireStream fs ++ noise') s = .next u ∧
      u.cnt = { s.cnt with rxFrame := s.cnt.rxFrame + BitVec.ofNat 32 fs.length }

/-- R165 case 1: one noise sync byte right before a frame, in AwaitingSync, loses the whole frame: the state is as
if no byte had come. -/
def Obligations.NoiseSyncLosesFrame : Prop :=
  ∀ (t : Byte) (p : Pay) (w : List Byte) (s : State), wireFrame t p = some w → s.df.state = .awaitingSync →
    s.df.pend = false → receiveAll (0x55#8 :: w) s = .next s

/-! ### The encoder -/

/-- R124, R121: a frame's raw bytes are the sync byte, `DE AD BE`, the type, `00 00 00 SIZE(t)` with `SIZE(t)` 4, 5
or 12, and the payload; so raw offsets 1 to 8 never hold the sync byte, only payload bytes are escaped, and the wire
form begins `55 DE`. -/
def Obligations.OnlyPayloadIsEscaped : Prop :=
  ∀ t ∈ encodableTypes, ∀ p : Pay, ∃ n ∈ [4, 5, 12],
    size t = some n ∧
    rawFrame t p =
      some ([0x55#8, 0xDE#8, 0xAD#8, 0xBE#8, t, 0x00#8, 0x00#8, 0x00#8, BitVec.ofNat 8 n] ++ p.toList.take n) ∧
    (∀ b ∈ [0xDE#8, 0xAD#8, 0xBE#8, t, 0x00#8, 0x00#8, 0x00#8, BitVec.ofNat 8 n], b ≠ 0x55#8) ∧
    wireFrame t p =
      some ([0x55#8, 0xDE#8, 0xAD#8, 0xBE#8, t, 0x00#8, 0x00#8, 0x00#8, BitVec.ofNat 8 n] ++
        (p.toList.take n).flatMap fun b => if b = 0x55#8 then [0x55#8, 0x55#8] else [b])

/-- R108: the wire length is nine header bytes, the payload, and one byte for each payload byte equal to the sync
byte: 13 to 33 bytes. -/
def Obligations.WireLength : Prop :=
  ∀ (t : Byte) (p : Pay) (n : Nat), size t = some n → ∃ w, wireFrame t p = some w ∧
    w.length = 9 + n + (p.toList.take n).count 0x55#8 ∧ 13 ≤ w.length ∧ w.length ≤ 33

/-- R129, R130, R125: from `TxStart` the engine sends exactly the frame's wire bytes; it is active until the last of
them and idle after, one frame is counted, and the escape counter holds the number of escaped bytes. -/
def Obligations.EngineSendsExactlyTheFrame : Prop :=
  ∀ (t : Byte) (p : Pay) (n : Nat) (w : List Byte) (s : State), size t = some n → wireFrame t p = some w →
    sentBytes w.length (txStart t p s) = w ∧
    (∀ k < w.length, (afterSends k (txStart t p s)).tx.active = true) ∧
    afterSends w.length (txStart t p s) =
      { s with
        tx :=
          { active := false, dtype := t, pay := snapshot t p, idx := 9 + n, esc := false
            escCnt := BitVec.ofNat 8 ((p.toList.take n).count 0x55#8) }
        cnt := { s.cnt with txFrame := s.cnt.txFrame + 1 } }

/-- R127 to R131: in any cycle without reset, whatever else happens in it, a busy engine offers the next byte of its
frame; if the Transport takes it and bytes remain, the engine goes on with the rest; if not, it keeps its place. -/
def Obligations.CycleSendsNextWireByte : Prop :=
  ∀ (s u : State) (n : Nat), (nextInput s).rst = false → s.tx.active = true → size s.tx.dtype = some n →
    s.tx.idx < 9 + n → step s = .next u →
    u.out.txValid = true ∧ (remainingBytes s.tx).head? = some u.out.txByte ∧
    ((nextInput s).txReady = false → u.tx = s.tx) ∧
    ((nextInput s).txReady = true → (remainingBytes s.tx).tail ≠ [] →
      u.tx.active = true ∧ remainingBytes u.tx = (remainingBytes s.tx).tail)

/-! ### The registry -/

/-- R196, R200: an entry with `T` ticks left stays live through `T - 1` ticks and is expired by the `T`-th, and an
expired entry never changes. -/
def Obligations.EntryExpiresOnItsLastTick : Prop :=
  ∀ e : Entry, e.expired = false → e.cnt ≠ 0 →
    (∀ k < e.cnt.toNat, countEntry^[k] e = { e with cnt := e.cnt - BitVec.ofNat 32 k }) ∧
    ∀ k, e.cnt.toNat ≤ k → countEntry^[k] e = { e with cnt := 0, expired := true }

/-- R198: with an expired entry and room in the queue, the first expired entry leaves the registry, its event joins
the queue and CNT_TIMEOUT counts; without either, nothing changes. -/
def Obligations.TimeoutPushTakesFirstExpired : Prop :=
  ∀ s : State,
    (∀ (before after : List Entry) (e : Entry), s.evq.length < s.cfg.evqDepth → s.reg = before ++ e :: after →
      (∀ x ∈ before, x.expired = false) → e.expired = true →
      timeoutPush s =
        { s with
          reg := before ++ after
          evq := s.evq ++
            [{ code := 0x80#8, matched := false, kind := e.kind, id := e.id, data := Vector.replicate 12 0 }]
          cnt := { s.cnt with timeout := s.cnt.timeout + 1 } }) ∧
    ((∀ x ∈ s.reg, x.expired = false) ∨ s.cfg.evqDepth ≤ s.evq.length → timeoutPush s = s)

/-- R201: a request of either kind sent with timeout 0 in an otherwise idle cycle times out in that cycle: its frame
starts, its event is pushed and no entry of it is left. -/
def Obligations.ZeroTimeoutRequestTimesOutAtOnce : Prop :=
  ∀ (s : State) (ins : List CycleIn) (t : Byte) (k : Kind) (d : Word),
    (t, k, d) ∈ [(1#8, Kind.tc, 0x00000101#32), (4#8, Kind.tm, 0x00000401#32)] →
    s.inputs = { CycleIn.idle with busOp := .write 2#6 d } :: ins →
    s.tx.active = false → s.sch.tickPend = false → s.slot.full = false → s.flt.pend = false →
    s.ctl.argTimeout = 0 → (∀ x ∈ s.reg, x.expired = false) → s.reg.length < s.cfg.regDepth →
    s.evq.length < s.cfg.evqDepth →
    ∃ u, step s = .next u ∧ u.reg = s.reg ∧ u.tx.active = true ∧ u.tx.dtype = t ∧
      u.ctl.cmdResult = 0x00000100#32 ∧ u.cnt.timeout = s.cnt.timeout + 1 ∧
      u.evq = s.evq ++
        [{ code := 0x80#8, matched := false, kind := k, id := payWord s.ctl.argPay 0
           data := Vector.replicate 12 0 }]

/-- R199, R179, R268: a response held in the slot by a full queue, whose entry expires in the cycle in which the
host pops an event, is pushed unmatched and counted late, and the expired entry waits for its own push. -/
def Obligations.HeldResponseLosesToTimeout : Prop :=
  ∀ (s : State) (ins : List CycleIn) (head : Event) (rest : List Event) (e : Entry),
    s.inputs = { CycleIn.idle with tick := true, busOp := .write 2#6 0x00000005#32 } :: ins →
    s.tx.active = false → s.sch.tickPend = false → s.sch.active = false → s.flt.pend = false →
    s.slot.full = true → s.slot.dtype = 2#8 → s.evq = head :: rest → s.evq.length = s.cfg.evqDepth →
    s.reg = [e] → e.expired = false → e.cnt = 1 → e.kind = .tc → e.id = payWord s.slot.pay 0 →
    ∃ u, step s = .next u ∧
      u.evq = rest ++
        [{ code := 0x02#8, matched := false, kind := .tc, id := payWord s.slot.pay 0, data := s.slot.pay }] ∧
      u.reg = [{ e with cnt := 0, expired := true }] ∧ u.cnt.late = s.cnt.late + 1 ∧
      u.cnt.timeout = s.cnt.timeout ∧ u.slot.full = false

/-- R184: every entry removed is either a live one, for which exactly one event with `matched` set is pushed, or an
expired one, for which exactly one timeout event is pushed; every other entry stays, and no event of either sort is
pushed without its entry. So it is in the phases P6 to P8 from every state, and over a whole cycle without reset: the
phases before them count the entries down, add one at most and remove none. -/
def Obligations.EachRemovedEntryHasOneEvent : Prop :=
  (∀ (i : CycleIn) (s u : State),
    andThen (dispatchSlot s) (fun t => .next (pushPhase (faultPhase i t))) = .next u →
    EntriesResolved s.reg s.evq u) ∧
  ∀ s u : State, (nextInput s).rst = false → step s = .next u →
    ∃ (added : List Entry) (popped : Nat), added.length ≤ 1 ∧ popped ≤ 1 ∧
      (popped = 1 → (nextInput s).busOp = .write 2#6 0x00000005#32) ∧
      EntriesResolved ((if (nextInput s).tick then s.reg.map countEntry else s.reg) ++ added) (s.evq.drop popped) u

/-! ### The scheduler -/

/-- R213, R214: a tick steps the accumulator of a running session; at a crossing the remainder is kept and a resend
falls due, or is lost and counted while one is pending; without a session nothing changes. -/
def Obligations.SchedTickStepsAccumulator : Prop :=
  ∀ s : State,
    (s.sch.active = false → schedTick s = s) ∧
    (s.sch.active = true → s.sch.acc.toNat + s.sch.rate.toNat < s.cfg.thresh → s.cfg.thresh ≤ 2 ^ 31 →
      schedTick s = { s with sch := { s.sch with acc := s.sch.acc + s.sch.rate } }) ∧
    (s.sch.active = true → s.cfg.thresh ≤ s.sch.acc.toNat + s.sch.rate.toNat →
      s.sch.acc.toNat + s.sch.rate.toNat < 2 ^ 32 →
      schedTick s =
        { s with
          sch :=
            { s.sch with
              acc := BitVec.ofNat 32 (s.sch.acc.toNat + s.sch.rate.toNat - s.cfg.thresh), tickPend := true }
          cnt := { s.cnt with
                   schedOvr := if s.sch.tickPend then s.cnt.schedOvr + 1 else s.cnt.schedOvr } })

/-- R215, R216, R193, R126: a pending resend waits for the wire; is skipped and counted when it needs an entry and
the registry is full; else registers its request and starts its frame. -/
def Obligations.ResendServiced : Prop :=
  ∀ s : State,
    (s.sch.tickPend = false ∨ s.tx.active = true → schedService s = s) ∧
    (s.sch.tickPend = true → s.tx.active = false → s.sch.dtype = 1#8 ∨ s.sch.dtype = 4#8 →
      s.cfg.regDepth ≤ s.reg.length →
      schedService s =
        { s with
          sch := { s.sch with tickPend := false }
          cnt := { s.cnt with schedSkip := s.cnt.schedSkip + 1 } }) ∧
    (s.sch.tickPend = true → s.tx.active = false → s.sch.dtype ∈ encodableTypes →
      (s.sch.dtype = 1#8 ∨ s.sch.dtype = 4#8 → s.reg.length < s.cfg.regDepth) →
      schedService s =
        { s with
          sch := { s.sch with tickPend := false }
          reg := s.reg ++
            (if s.sch.dtype = 1#8 then
              [{ kind := .tc, id := payWord s.sch.pay 0, cnt := s.sch.timeout
                 expired := decide (s.sch.timeout = 0) }]
            else if s.sch.dtype = 4#8 then
              [{ kind := .tm, id := payWord s.sch.pay 0, cnt := s.sch.timeout
                 expired := decide (s.sch.timeout = 0) }]
            else [])
          tx :=
            { active := true, dtype := s.sch.dtype, pay := snapshot s.sch.dtype s.sch.pay, idx := 0, esc := false
              escCnt := 0 } })

/-- R217: `K` ticks after a session starts at rate `r`, the accumulator has crossed the threshold exactly
`floor(K * r / THRESH)` times (each crossing is the pending resend or a counted overrun) and holds the remainder; so
no resend is due before tick `ceil(THRESH / r)`, and one is from then on. -/
def Obligations.CadenceIsFloorOfElapsedPeriods : Prop :=
  ∀ (s : State) (k : Nat), s.cfg.legal = true → s.sch.active = true → s.sch.rate.toNat ≤ s.cfg.thresh →
    s.sch.acc = 0 → s.sch.tickPend = false →
    (afterTicks k s).sch.acc = BitVec.ofNat 32 (k * s.sch.rate.toNat % s.cfg.thresh) ∧
    (afterTicks k s).cnt.schedOvr + (if (afterTicks k s).sch.tickPend then 1 else 0) =
      s.cnt.schedOvr + BitVec.ofNat 32 (k * s.sch.rate.toNat / s.cfg.thresh) ∧
    ((afterTicks k s).sch.tickPend = true ↔ s.cfg.thresh ≤ k * s.sch.rate.toNat)

/-- R217, R218 over whole runs: while the environment neither resets the block nor writes to it, the session's phase
after any number of cycles is its start plus the rate for each tick that came, modulo the threshold, and the
session's type, payload, timeout and rate are as they were. -/
def Obligations.SessionPhaseNeverDrifts : Prop :=
  ∀ (s u : State), s.cfg.legal = true → s.sch.active = true → s.sch.rate.toNat ≤ s.cfg.thresh →
    s.sch.acc.toNat < s.cfg.thresh → (∀ i ∈ s.inputs, i.quiet = true) →
    Sys2Proof.core.run s.inputs.length s = .next u →
    u.sch.acc.toNat =
      (s.sch.acc.toNat + (s.inputs.filter (·.tick)).length * s.sch.rate.toNat) % s.cfg.thresh ∧
    { u.sch with acc := s.sch.acc, tickPend := s.sch.tickPend } = s.sch

/-! ### Faults, interrupt, outputs -/

/-- R266, R267: a Transport error in a cycle that brings no other event is counted and, with room in the queue,
pushed as an event in the same cycle; the transmit engine is not touched by it. -/
def Obligations.TransportErrorBecomesEvent : Prop :=
  ∀ (s : State) (ins : List CycleIn) (code : Bool),
    s.inputs = { CycleIn.idle with txErrValid := true, txErrCode := code, txReady := false } :: ins →
    (s.tx.active = true → (txByte s.tx).isSome = true) → s.sch.tickPend = false → s.slot.full = false →
    s.flt.pend = false → (∀ x ∈ s.reg, x.expired = false) → s.evq.length < s.cfg.evqDepth →
    ∃ u, step s = .next u ∧
      u = { s with
            inputs := ins
            out := u.out
            flt := { pend := false, code := code }
            cnt := { s.cnt with fault := s.cnt.fault + 1 }
            evq := s.evq ++
              [{ code := 0x81#8, matched := false, kind := .tm, id := 0
                 data := #v[0, 0, 0, (if code then 1#8 else 0#8), 0, 0, 0, 0, 0, 0, 0, 0] }] }

/-- R266, R267, R32: while a fault waits, a further one is counted and leaves the waiting one's code; a fault waits
exactly while the queue is full: with room its event joins the tail and it waits no longer. -/
def Obligations.WaitingFaultKeepsItsCode : Prop :=
  ∀ (s : State) (code : Bool),
    (s.flt.pend = true →
      faultCapture code s = { s with cnt := { s.cnt with fault := s.cnt.fault + 1 } }) ∧
    (s.flt.pend = false →
      faultCapture code s =
        { s with cnt := { s.cnt with fault := s.cnt.fault + 1 }, flt := { pend := true, code := code } }) ∧
    (s.flt.pend = false ∨ s.cfg.evqDepth ≤ s.evq.length → faultPush s = s) ∧
    (s.flt.pend = true → s.evq.length < s.cfg.evqDepth →
      faultPush s =
        { s with
          flt := { pend := false, code := s.flt.code }
          evq := s.evq ++
            [{ code := 0x81#8, matched := false, kind := .tm, id := 0
               data := #v[0, 0, 0, (if s.flt.code then 1#8 else 0#8), 0, 0, 0, 0, 0, 0, 0, 0] }] })

/-- R23, R264: the outputs of every cycle, from its start state and `rst` alone. -/
def Obligations.OutputsComeFromStartState : Prop :=
  ∀ s u : State, step s = .next u →
    ((nextInput s).rst = true →
      u.out = { busRdata := 0, rxReady := false, txValid := false, txByte := 0, irq := false }) ∧
    ((nextInput s).rst = false →
      (∀ w, (nextInput s).busOp = .read w → u.out.busRdata = regRead s w) ∧
      ((∀ w, (nextInput s).busOp ≠ .read w) → u.out.busRdata = 0) ∧
      u.out.rxReady = !s.slot.full ∧ u.out.txValid = s.tx.active ∧
      (s.tx.active = true → txByte s.tx = some u.out.txByte) ∧ (s.tx.active = false → u.out.txByte = 0) ∧
      u.out.irq = (s.ctl.irqEn && !s.evq.isEmpty))

/-! ### Reset and the cycle -/

/-- R281, R286, R287: a cycle with `rst` leads to the reset state of the same block, whatever the state and the
other inputs, and in it every register of the map reads 0. -/
def Obligations.ResetWins : Prop :=
  ∀ s : State, (nextInput s).rst = true →
    ∃ u, step s = .next u ∧ u = { State.reset with cfg := s.cfg, inputs := s.inputs.tail } ∧
      ∀ w : WordIdx, regRead u w = 0

/-- R62, R72, R73: a cycle runs the instruction its bus access decodes to. A Write's is run after the tick and the
sent byte (P1, P2) and before P4 to P8; a Read's on the start state, with the same phases after it. -/
def Obligations.StepRunsDecodedAccess : Prop :=
  ∀ (s u : State) (i : Instr) (o : CycleOut), (nextInput s).rst = false → portOutputs s = some o →
    decode (.bus (nextInput s).busOp) = .ok i →
    ((∀ w d, (nextInput s).busOp = .write w d →
      exec i (sendPhase (nextInput s) s.tx.active (tickPhase (nextInput s) { takeInput s with out := o })) = .next u →
      step s = afterWrite (nextInput s) s.slot.full u) ∧
    (∀ w, (nextInput s).busOp = .read w → exec i { takeInput s with out := o } = .next u →
      step s =
        afterWrite (nextInput s) s.slot.full
          (sendPhase (nextInput s) s.tx.active (tickPhase (nextInput s) u))))

/-- R62, R146, R178: the receive path runs the FRAME row its data-type byte decodes to: at the header check, when
the length has been read, at the frame's end (a last byte past the twelfth is counted and not stored, R158), and from
the slot. -/
def Obligations.ReceivePathRunsDecodedRow : Prop :=
  ∀ (v : Byte) (s : State) (i : Instr),
    (decode (.dataType v .typed) = .ok i → s.df.state = .readingHeader → 3 ≤ s.df.hcnt →
      accept v s = exec i s) ∧
    (decode (.dataType s.df.dtype .lengthRead) = .ok i → s.df.state = .readingLength → s.df.lcnt = 3 →
      accept v s =
        exec i
          { s with df := { s.df with len := BitVec.ofNat 32 (s.df.len.toNat * 256 + v.toNat), lcnt := 4 } }) ∧
    (decode (.dataType s.df.dtype .completed) = .ok i → ∀ h : s.df.pcnt.toNat < 12,
      s.df.state = .readingPayload → s.df.pcnt + 1 = s.df.len →
      accept v s = exec i { s with df := { s.df with pay := s.df.pay.set s.df.pcnt.toNat v, pcnt := s.df.len } }) ∧
    (decode (.dataType s.df.dtype .completed) = .ok i → 12 ≤ s.df.pcnt.toNat →
      s.df.state = .readingPayload → s.df.pcnt + 1 = s.df.len →
      accept v s = exec i { s with df := { s.df with pcnt := s.df.len } }) ∧
    (decode (.dataType s.slot.dtype .dispatched) = .ok i → s.slot.full = true → dispatchSlot s = exec i s)

/-- R62, R141: a cycle without a bus access whose offered byte is the data type of a frame whose reserved bytes have been taken
runs the FRAME row of that byte in P5, with P1, P2 and P4 before it and P6 to P8 after it. -/
def Obligations.StepRunsOfferedDataType : Prop :=
  ∀ (s : State) (i : Instr) (o : CycleOut), (nextInput s).rst = false → portOutputs s = some o →
    (nextInput s).busOp = .idle → (nextInput s).rxValid = true → s.slot.full = false →
    s.df.state = .readingHeader → s.df.hcnt = 3 → s.df.pend = false → (nextInput s).rxByte ≠ 0x55#8 →
    decode (.dataType (nextInput s).rxByte .typed) = .ok i →
    step s =
      andThen
        (exec i
          (schedService
            (sendPhase (nextInput s) s.tx.active (tickPhase (nextInput s) { takeInput s with out := o }))))
        fun t => andThen (dispatchSlot t) fun u => .next (pushPhase (faultPhase (nextInput s) u))

/-- The invariant holds at reset. -/
def Obligations.ResetSatisfiesInvariant : Prop := BlockInv State.reset ∧ PaddingInv State.reset

/-- R37 items 1 to 4 and 7, R25, R30, R33, R104, R179, R240, R267: every cycle keeps the invariant, from every state that
has it, reachable or not, under every input. -/
def Obligations.StepKeepsInvariant : Prop :=
  ∀ s u : State, BlockInv s → step s = .next u → BlockInv u

/-- R263: from a state with the invariant no cycle stops: no command, no received byte and no Transport error of any
kind. -/
def Obligations.StepNeverStops : Prop :=
  ∀ s : State, BlockInv s → ∃ u, step s = .next u ∧ u.cfg = s.cfg ∧ u.inputs = s.inputs.tail

/-- R27, R29, R103, R159: every cycle keeps the unused payload bytes 0. -/
def Obligations.StepKeepsUnusedBytesZero : Prop :=
  ∀ s u : State, BlockInv s → PaddingInv s → step s = .next u → PaddingInv u

/-- R83, R300, R32, R75: in one cycle the event queue loses at most its head, and that only to EVT_POP, and takes at
its tail at most one frame event, then at most one timeout event, then at most one fault event. -/
def Obligations.EventQueueIsFirstInFirstOut : Prop :=
  ∀ s u : State, (nextInput s).rst = false → step s = .next u →
    ∃ (popped : Nat) (frame timeout fault : List Event),
      u.evq = s.evq.drop popped ++ frame ++ timeout ++ fault ∧
      popped ≤ 1 ∧ (popped = 1 → (nextInput s).busOp = .write 2#6 0x00000005#32) ∧
      frame.length ≤ 1 ∧ (∀ e ∈ frame, e.code ∈ responseTypes) ∧
      timeout.length ≤ 1 ∧ (∀ e ∈ timeout, e.code = 0x80#8) ∧
      fault.length ≤ 1 ∧ (∀ e ∈ fault, e.code = 0x81#8)

/-- R277: with nothing driven on any port, the only change is a timeout event that waits to be pushed. -/
def Obligations.StillBlockOnlyPushesTimeouts : Prop :=
  ∀ s : State, BlockInv s → nextInput s = CycleIn.still →
    ∃ u, step s = .next u ∧ u = { timeoutPush s with inputs := s.inputs.tail, out := u.out }

/-- R58, R76: a Read leaves the block as an idle bus would, but for the data it shows. -/
def Obligations.ReadsDisturbNothing : Prop :=
  ∀ (s u : State) (i : CycleIn) (ins : List CycleIn) (w : WordIdx), i.rst = false → i.busOp = .idle →
    step { s with inputs := i :: ins } = .next u →
    step { s with inputs := { i with busOp := .read w } :: ins } =
      .next { u with out := { u.out with busRdata := regRead s w } }

/-- R87, R296: in a cycle without a bus access and without reset the argument registers have no influence: two
blocks that differ in them alone still differ in them alone, by the same values, after the cycle. -/
def Obligations.ArgumentsAreReadOnlyByCommands : Prop :=
  ∀ (s u : State) (timeout rate : Word) (pay : Pay), (nextInput s).rst = false → (nextInput s).busOp = .idle →
    step s = .next u →
    step { s with ctl := { s.ctl with argTimeout := timeout, argRate := rate, argPay := pay } } =
      .next { u with ctl := { u.ctl with argTimeout := timeout, argRate := rate, argPay := pay } }
end

