-- ==== Sys2Proof/Laws/State.lean ====
section
/-! SUPPORT. One lemma per field per unconditional update, true by unfolding the update once: the fields an update
leaves alone. What it writes is said beside them. -/

namespace Sys2Proof.Machine

variable (s : State)

/-! `result` -/
@[simp] theorem result_cfg (op : BitVec 4) (c : ResultCode) : (result op c s).cfg = s.cfg := rfl
@[simp] theorem result_df (op : BitVec 4) (c : ResultCode) : (result op c s).df = s.df := rfl
@[simp] theorem result_slot (op : BitVec 4) (c : ResultCode) : (result op c s).slot = s.slot := rfl
@[simp] theorem result_last (op : BitVec 4) (c : ResultCode) : (result op c s).last = s.last := rfl
@[simp] theorem result_tx (op : BitVec 4) (c : ResultCode) : (result op c s).tx = s.tx := rfl
@[simp] theorem result_reg (op : BitVec 4) (c : ResultCode) : (result op c s).reg = s.reg := rfl
@[simp] theorem result_evq (op : BitVec 4) (c : ResultCode) : (result op c s).evq = s.evq := rfl
@[simp] theorem result_sch (op : BitVec 4) (c : ResultCode) : (result op c s).sch = s.sch := rfl
@[simp] theorem result_flt (op : BitVec 4) (c : ResultCode) : (result op c s).flt = s.flt := rfl
@[simp] theorem result_cnt (op : BitVec 4) (c : ResultCode) : (result op c s).cnt = s.cnt := rfl
@[simp] theorem result_inputs (op : BitVec 4) (c : ResultCode) : (result op c s).inputs = s.inputs := rfl
@[simp] theorem result_out (op : BitVec 4) (c : ResultCode) : (result op c s).out = s.out := rfl
@[simp] theorem result_ctl (op : BitVec 4) (c : ResultCode) :
    (result op c s).ctl = { s.ctl with cmdResult := resultWord op c } := rfl

/-! `evqPush` -/
@[simp] theorem evqPush_cfg (e : Event) : (evqPush e s).cfg = s.cfg := rfl
@[simp] theorem evqPush_df (e : Event) : (evqPush e s).df = s.df := rfl
@[simp] theorem evqPush_slot (e : Event) : (evqPush e s).slot = s.slot := rfl
@[simp] theorem evqPush_last (e : Event) : (evqPush e s).last = s.last := rfl
@[simp] theorem evqPush_tx (e : Event) : (evqPush e s).tx = s.tx := rfl
@[simp] theorem evqPush_reg (e : Event) : (evqPush e s).reg = s.reg := rfl
@[simp] theorem evqPush_sch (e : Event) : (evqPush e s).sch = s.sch := rfl
@[simp] theorem evqPush_flt (e : Event) : (evqPush e s).flt = s.flt := rfl
@[simp] theorem evqPush_ctl (e : Event) : (evqPush e s).ctl = s.ctl := rfl
@[simp] theorem evqPush_cnt (e : Event) : (evqPush e s).cnt = s.cnt := rfl
@[simp] theorem evqPush_inputs (e : Event) : (evqPush e s).inputs = s.inputs := rfl
@[simp] theorem evqPush_out (e : Event) : (evqPush e s).out = s.out := rfl
@[simp] theorem evqPush_evq (e : Event) :
    (evqPush e s).evq = s.evq ++ [e] := rfl

/-! `evqPop` -/
@[simp] theorem evqPop_cfg : (evqPop s).cfg = s.cfg := rfl
@[simp] theorem evqPop_df : (evqPop s).df = s.df := rfl
@[simp] theorem evqPop_slot : (evqPop s).slot = s.slot := rfl
@[simp] theorem evqPop_last : (evqPop s).last = s.last := rfl
@[simp] theorem evqPop_tx : (evqPop s).tx = s.tx := rfl
@[simp] theorem evqPop_reg : (evqPop s).reg = s.reg := rfl
@[simp] theorem evqPop_sch : (evqPop s).sch = s.sch := rfl
@[simp] theorem evqPop_flt : (evqPop s).flt = s.flt := rfl
@[simp] theorem evqPop_ctl : (evqPop s).ctl = s.ctl := rfl
@[simp] theorem evqPop_cnt : (evqPop s).cnt = s.cnt := rfl
@[simp] theorem evqPop_inputs : (evqPop s).inputs = s.inputs := rfl
@[simp] theorem evqPop_out : (evqPop s).out = s.out := rfl
@[simp] theorem evqPop_evq :
    (evqPop s).evq = s.evq.tail := rfl

/-! `regInsert` -/
@[simp] theorem regInsert_cfg (k : Kind) (i t : Word) : (regInsert k i t s).cfg = s.cfg := rfl
@[simp] theorem regInsert_df (k : Kind) (i t : Word) : (regInsert k i t s).df = s.df := rfl
@[simp] theorem regInsert_slot (k : Kind) (i t : Word) : (regInsert k i t s).slot = s.slot := rfl
@[simp] theorem regInsert_last (k : Kind) (i t : Word) : (regInsert k i t s).last = s.last := rfl
@[simp] theorem regInsert_tx (k : Kind) (i t : Word) : (regInsert k i t s).tx = s.tx := rfl
@[simp] theorem regInsert_evq (k : Kind) (i t : Word) : (regInsert k i t s).evq = s.evq := rfl
@[simp] theorem regInsert_sch (k : Kind) (i t : Word) : (regInsert k i t s).sch = s.sch := rfl
@[simp] theorem regInsert_flt (k : Kind) (i t : Word) : (regInsert k i t s).flt = s.flt := rfl
@[simp] theorem regInsert_ctl (k : Kind) (i t : Word) : (regInsert k i t s).ctl = s.ctl := rfl
@[simp] theorem regInsert_cnt (k : Kind) (i t : Word) : (regInsert k i t s).cnt = s.cnt := rfl
@[simp] theorem regInsert_inputs (k : Kind) (i t : Word) : (regInsert k i t s).inputs = s.inputs := rfl
@[simp] theorem regInsert_out (k : Kind) (i t : Word) : (regInsert k i t s).out = s.out := rfl
@[simp] theorem regInsert_reg (k : Kind) (i t : Word) :
    (regInsert k i t s).reg = s.reg ++ [{ kind := k, id := i, cnt := t, expired := decide (t = 0) }] := rfl

/-! `regCountdown` -/
@[simp] theorem regCountdown_cfg : (regCountdown s).cfg = s.cfg := rfl
@[simp] theorem regCountdown_df : (regCountdown s).df = s.df := rfl
@[simp] theorem regCountdown_slot : (regCountdown s).slot = s.slot := rfl
@[simp] theorem regCountdown_last : (regCountdown s).last = s.last := rfl
@[simp] theorem regCountdown_tx : (regCountdown s).tx = s.tx := rfl
@[simp] theorem regCountdown_evq : (regCountdown s).evq = s.evq := rfl
@[simp] theorem regCountdown_sch : (regCountdown s).sch = s.sch := rfl
@[simp] theorem regCountdown_flt : (regCountdown s).flt = s.flt := rfl
@[simp] theorem regCountdown_ctl : (regCountdown s).ctl = s.ctl := rfl
@[simp] theorem regCountdown_cnt : (regCountdown s).cnt = s.cnt := rfl
@[simp] theorem regCountdown_inputs : (regCountdown s).inputs = s.inputs := rfl
@[simp] theorem regCountdown_out : (regCountdown s).out = s.out := rfl
@[simp] theorem regCountdown_reg :
    (regCountdown s).reg = s.reg.map countEntry := rfl

/-! `startFrame` -/
@[simp] theorem startFrame_cfg (b : Byte) : (startFrame b s).cfg = s.cfg := rfl
@[simp] theorem startFrame_slot (b : Byte) : (startFrame b s).slot = s.slot := rfl
@[simp] theorem startFrame_last (b : Byte) : (startFrame b s).last = s.last := rfl
@[simp] theorem startFrame_tx (b : Byte) : (startFrame b s).tx = s.tx := rfl
@[simp] theorem startFrame_reg (b : Byte) : (startFrame b s).reg = s.reg := rfl
@[simp] theorem startFrame_evq (b : Byte) : (startFrame b s).evq = s.evq := rfl
@[simp] theorem startFrame_sch (b : Byte) : (startFrame b s).sch = s.sch := rfl
@[simp] theorem startFrame_flt (b : Byte) : (startFrame b s).flt = s.flt := rfl
@[simp] theorem startFrame_ctl (b : Byte) : (startFrame b s).ctl = s.ctl := rfl
@[simp] theorem startFrame_cnt (b : Byte) : (startFrame b s).cnt = s.cnt := rfl
@[simp] theorem startFrame_inputs (b : Byte) : (startFrame b s).inputs = s.inputs := rfl
@[simp] theorem startFrame_out (b : Byte) : (startFrame b s).out = s.out := rfl

/-! `goIdle` -/
@[simp] theorem goIdle_cfg : (goIdle s).cfg = s.cfg := rfl
@[simp] theorem goIdle_slot : (goIdle s).slot = s.slot := rfl
@[simp] theorem goIdle_last : (goIdle s).last = s.last := rfl
@[simp] theorem goIdle_tx : (goIdle s).tx = s.tx := rfl
@[simp] theorem goIdle_reg : (goIdle s).reg = s.reg := rfl
@[simp] theorem goIdle_evq : (goIdle s).evq = s.evq := rfl
@[simp] theorem goIdle_sch : (goIdle s).sch = s.sch := rfl
@[simp] theorem goIdle_flt : (goIdle s).flt = s.flt := rfl
@[simp] theorem goIdle_ctl : (goIdle s).ctl = s.ctl := rfl
@[simp] theorem goIdle_cnt : (goIdle s).cnt = s.cnt := rfl
@[simp] theorem goIdle_inputs : (goIdle s).inputs = s.inputs := rfl
@[simp] theorem goIdle_out : (goIdle s).out = s.out := rfl
@[simp] theorem goIdle_df :
    (goIdle s).df = { s.df with state := .awaitingSync, pend := false } := rfl

/-! `setPend` -/
@[simp] theorem setPend_cfg (b : Bool) : (setPend b s).cfg = s.cfg := rfl
@[simp] theorem setPend_slot (b : Bool) : (setPend b s).slot = s.slot := rfl
@[simp] theorem setPend_last (b : Bool) : (setPend b s).last = s.last := rfl
@[simp] theorem setPend_tx (b : Bool) : (setPend b s).tx = s.tx := rfl
@[simp] theorem setPend_reg (b : Bool) : (setPend b s).reg = s.reg := rfl
@[simp] theorem setPend_evq (b : Bool) : (setPend b s).evq = s.evq := rfl
@[simp] theorem setPend_sch (b : Bool) : (setPend b s).sch = s.sch := rfl
@[simp] theorem setPend_flt (b : Bool) : (setPend b s).flt = s.flt := rfl
@[simp] theorem setPend_ctl (b : Bool) : (setPend b s).ctl = s.ctl := rfl
@[simp] theorem setPend_cnt (b : Bool) : (setPend b s).cnt = s.cnt := rfl
@[simp] theorem setPend_inputs (b : Bool) : (setPend b s).inputs = s.inputs := rfl
@[simp] theorem setPend_out (b : Bool) : (setPend b s).out = s.out := rfl
@[simp] theorem setPend_df (b : Bool) :
    (setPend b s).df = { s.df with pend := b } := rfl

/-! `storeReserved` -/
@[simp] theorem storeReserved_cfg (v : Byte) : (storeReserved v s).cfg = s.cfg := rfl
@[simp] theorem storeReserved_slot (v : Byte) : (storeReserved v s).slot = s.slot := rfl
@[simp] theorem storeReserved_last (v : Byte) : (storeReserved v s).last = s.last := rfl
@[simp] theorem storeReserved_tx (v : Byte) : (storeReserved v s).tx = s.tx := rfl
@[simp] theorem storeReserved_reg (v : Byte) : (storeReserved v s).reg = s.reg := rfl
@[simp] theorem storeReserved_evq (v : Byte) : (storeReserved v s).evq = s.evq := rfl
@[simp] theorem storeReserved_sch (v : Byte) : (storeReserved v s).sch = s.sch := rfl
@[simp] theorem storeReserved_flt (v : Byte) : (storeReserved v s).flt = s.flt := rfl
@[simp] theorem storeReserved_ctl (v : Byte) : (storeReserved v s).ctl = s.ctl := rfl
@[simp] theorem storeReserved_cnt (v : Byte) : (storeReserved v s).cnt = s.cnt := rfl
@[simp] theorem storeReserved_inputs (v : Byte) : (storeReserved v s).inputs = s.inputs := rfl
@[simp] theorem storeReserved_out (v : Byte) : (storeReserved v s).out = s.out := rfl

/-! `shiftLength` -/
@[simp] theorem shiftLength_cfg (v : Byte) : (shiftLength v s).cfg = s.cfg := rfl
@[simp] theorem shiftLength_slot (v : Byte) : (shiftLength v s).slot = s.slot := rfl
@[simp] theorem shiftLength_last (v : Byte) : (shiftLength v s).last = s.last := rfl
@[simp] theorem shiftLength_tx (v : Byte) : (shiftLength v s).tx = s.tx := rfl
@[simp] theorem shiftLength_reg (v : Byte) : (shiftLength v s).reg = s.reg := rfl
@[simp] theorem shiftLength_evq (v : Byte) : (shiftLength v s).evq = s.evq := rfl
@[simp] theorem shiftLength_sch (v : Byte) : (shiftLength v s).sch = s.sch := rfl
@[simp] theorem shiftLength_flt (v : Byte) : (shiftLength v s).flt = s.flt := rfl
@[simp] theorem shiftLength_ctl (v : Byte) : (shiftLength v s).ctl = s.ctl := rfl
@[simp] theorem shiftLength_cnt (v : Byte) : (shiftLength v s).cnt = s.cnt := rfl
@[simp] theorem shiftLength_inputs (v : Byte) : (shiftLength v s).inputs = s.inputs := rfl
@[simp] theorem shiftLength_out (v : Byte) : (shiftLength v s).out = s.out := rfl

/-! `storePayload` -/
@[simp] theorem storePayload_cfg (v : Byte) : (storePayload v s).cfg = s.cfg := rfl
@[simp] theorem storePayload_slot (v : Byte) : (storePayload v s).slot = s.slot := rfl
@[simp] theorem storePayload_last (v : Byte) : (storePayload v s).last = s.last := rfl
@[simp] theorem storePayload_tx (v : Byte) : (storePayload v s).tx = s.tx := rfl
@[simp] theorem storePayload_reg (v : Byte) : (storePayload v s).reg = s.reg := rfl
@[simp] theorem storePayload_evq (v : Byte) : (storePayload v s).evq = s.evq := rfl
@[simp] theorem storePayload_sch (v : Byte) : (storePayload v s).sch = s.sch := rfl
@[simp] theorem storePayload_flt (v : Byte) : (storePayload v s).flt = s.flt := rfl
@[simp] theorem storePayload_ctl (v : Byte) : (storePayload v s).ctl = s.ctl := rfl
@[simp] theorem storePayload_cnt (v : Byte) : (storePayload v s).cnt = s.cnt := rfl
@[simp] theorem storePayload_inputs (v : Byte) : (storePayload v s).inputs = s.inputs := rfl
@[simp] theorem storePayload_out (v : Byte) : (storePayload v s).out = s.out := rfl

/-! `acceptType` -/
@[simp] theorem acceptType_cfg (v : Byte) : (acceptType v s).cfg = s.cfg := rfl
@[simp] theorem acceptType_slot (v : Byte) : (acceptType v s).slot = s.slot := rfl
@[simp] theorem acceptType_last (v : Byte) : (acceptType v s).last = s.last := rfl
@[simp] theorem acceptType_tx (v : Byte) : (acceptType v s).tx = s.tx := rfl
@[simp] theorem acceptType_reg (v : Byte) : (acceptType v s).reg = s.reg := rfl
@[simp] theorem acceptType_evq (v : Byte) : (acceptType v s).evq = s.evq := rfl
@[simp] theorem acceptType_sch (v : Byte) : (acceptType v s).sch = s.sch := rfl
@[simp] theorem acceptType_flt (v : Byte) : (acceptType v s).flt = s.flt := rfl
@[simp] theorem acceptType_ctl (v : Byte) : (acceptType v s).ctl = s.ctl := rfl
@[simp] theorem acceptType_cnt (v : Byte) : (acceptType v s).cnt = s.cnt := rfl
@[simp] theorem acceptType_inputs (v : Byte) : (acceptType v s).inputs = s.inputs := rfl
@[simp] theorem acceptType_out (v : Byte) : (acceptType v s).out = s.out := rfl
@[simp] theorem acceptType_df (v : Byte) :
    (acceptType v s).df = { s.df with dtype := v, hcnt := 4, state := .readingLength } := rfl

/-! `rejectType` -/
@[simp] theorem rejectType_cfg (v : Byte) : (rejectType v s).cfg = s.cfg := rfl
@[simp] theorem rejectType_slot (v : Byte) : (rejectType v s).slot = s.slot := rfl
@[simp] theorem rejectType_last (v : Byte) : (rejectType v s).last = s.last := rfl
@[simp] theorem rejectType_tx (v : Byte) : (rejectType v s).tx = s.tx := rfl
@[simp] theorem rejectType_reg (v : Byte) : (rejectType v s).reg = s.reg := rfl
@[simp] theorem rejectType_evq (v : Byte) : (rejectType v s).evq = s.evq := rfl
@[simp] theorem rejectType_sch (v : Byte) : (rejectType v s).sch = s.sch := rfl
@[simp] theorem rejectType_flt (v : Byte) : (rejectType v s).flt = s.flt := rfl
@[simp] theorem rejectType_ctl (v : Byte) : (rejectType v s).ctl = s.ctl := rfl
@[simp] theorem rejectType_inputs (v : Byte) : (rejectType v s).inputs = s.inputs := rfl
@[simp] theorem rejectType_out (v : Byte) : (rejectType v s).out = s.out := rfl
@[simp] theorem rejectType_df (v : Byte) :
    (rejectType v s).df = { s.df with dtype := v, hcnt := 4, state := .awaitingSync, pend := false } := rfl
@[simp] theorem rejectType_cnt (v : Byte) :
    (rejectType v s).cnt = s.cnt.incTypeErr := rfl

/-! `emit` -/
@[simp] theorem emit_cfg : (emit s).cfg = s.cfg := rfl
@[simp] theorem emit_df : (emit s).df = s.df := rfl
@[simp] theorem emit_tx : (emit s).tx = s.tx := rfl
@[simp] theorem emit_reg : (emit s).reg = s.reg := rfl
@[simp] theorem emit_evq : (emit s).evq = s.evq := rfl
@[simp] theorem emit_sch : (emit s).sch = s.sch := rfl
@[simp] theorem emit_flt : (emit s).flt = s.flt := rfl
@[simp] theorem emit_ctl : (emit s).ctl = s.ctl := rfl
@[simp] theorem emit_inputs : (emit s).inputs = s.inputs := rfl
@[simp] theorem emit_out : (emit s).out = s.out := rfl
@[simp] theorem emit_slot :
    (emit s).slot = { full := true, dtype := s.df.dtype, res := s.df.res, pay := s.df.pay } := rfl
@[simp] theorem emit_last :
    (emit s).last = { res := s.df.res, dtype := s.df.dtype, pay := s.df.pay } := rfl
@[simp] theorem emit_cnt :
    (emit s).cnt = s.cnt.incRxFrame := rfl

/-! `emptySlot` -/
@[simp] theorem emptySlot_cfg : (emptySlot s).cfg = s.cfg := rfl
@[simp] theorem emptySlot_df : (emptySlot s).df = s.df := rfl
@[simp] theorem emptySlot_last : (emptySlot s).last = s.last := rfl
@[simp] theorem emptySlot_tx : (emptySlot s).tx = s.tx := rfl
@[simp] theorem emptySlot_reg : (emptySlot s).reg = s.reg := rfl
@[simp] theorem emptySlot_evq : (emptySlot s).evq = s.evq := rfl
@[simp] theorem emptySlot_sch : (emptySlot s).sch = s.sch := rfl
@[simp] theorem emptySlot_flt : (emptySlot s).flt = s.flt := rfl
@[simp] theorem emptySlot_ctl : (emptySlot s).ctl = s.ctl := rfl
@[simp] theorem emptySlot_cnt : (emptySlot s).cnt = s.cnt := rfl
@[simp] theorem emptySlot_inputs : (emptySlot s).inputs = s.inputs := rfl
@[simp] theorem emptySlot_out : (emptySlot s).out = s.out := rfl
@[simp] theorem emptySlot_slot :
    (emptySlot s).slot = { s.slot with full := false } := rfl

/-! `dropFrame` -/
@[simp] theorem dropFrame_cfg : (dropFrame s).cfg = s.cfg := rfl
@[simp] theorem dropFrame_df : (dropFrame s).df = s.df := rfl
@[simp] theorem dropFrame_last : (dropFrame s).last = s.last := rfl
@[simp] theorem dropFrame_tx : (dropFrame s).tx = s.tx := rfl
@[simp] theorem dropFrame_reg : (dropFrame s).reg = s.reg := rfl
@[simp] theorem dropFrame_evq : (dropFrame s).evq = s.evq := rfl
@[simp] theorem dropFrame_sch : (dropFrame s).sch = s.sch := rfl
@[simp] theorem dropFrame_flt : (dropFrame s).flt = s.flt := rfl
@[simp] theorem dropFrame_ctl : (dropFrame s).ctl = s.ctl := rfl
@[simp] theorem dropFrame_inputs : (dropFrame s).inputs = s.inputs := rfl
@[simp] theorem dropFrame_out : (dropFrame s).out = s.out := rfl
@[simp] theorem dropFrame_slot :
    (dropFrame s).slot = { s.slot with full := false } := rfl
@[simp] theorem dropFrame_cnt :
    (dropFrame s).cnt = s.cnt.incDrop := rfl

/-! `txStart` -/
@[simp] theorem txStart_cfg (t : Byte) (p : Pay) : (txStart t p s).cfg = s.cfg := rfl
@[simp] theorem txStart_df (t : Byte) (p : Pay) : (txStart t p s).df = s.df := rfl
@[simp] theorem txStart_slot (t : Byte) (p : Pay) : (txStart t p s).slot = s.slot := rfl
@[simp] theorem txStart_last (t : Byte) (p : Pay) : (txStart t p s).last = s.last := rfl
@[simp] theorem txStart_reg (t : Byte) (p : Pay) : (txStart t p s).reg = s.reg := rfl
@[simp] theorem txStart_evq (t : Byte) (p : Pay) : (txStart t p s).evq = s.evq := rfl
@[simp] theorem txStart_sch (t : Byte) (p : Pay) : (txStart t p s).sch = s.sch := rfl
@[simp] theorem txStart_flt (t : Byte) (p : Pay) : (txStart t p s).flt = s.flt := rfl
@[simp] theorem txStart_ctl (t : Byte) (p : Pay) : (txStart t p s).ctl = s.ctl := rfl
@[simp] theorem txStart_cnt (t : Byte) (p : Pay) : (txStart t p s).cnt = s.cnt := rfl
@[simp] theorem txStart_inputs (t : Byte) (p : Pay) : (txStart t p s).inputs = s.inputs := rfl
@[simp] theorem txStart_out (t : Byte) (p : Pay) : (txStart t p s).out = s.out := rfl
@[simp] theorem txStart_tx (t : Byte) (p : Pay) :
    (txStart t p s).tx = { active := true, dtype := t, pay := snapshot t p, idx := 0, esc := false, escCnt := 0 } := rfl

/-! `clearTickPend` -/
@[simp] theorem clearTickPend_cfg : (clearTickPend s).cfg = s.cfg := rfl
@[simp] theorem clearTickPend_df : (clearTickPend s).df = s.df := rfl
@[simp] theorem clearTickPend_slot : (clearTickPend s).slot = s.slot := rfl
@[simp] theorem clearTickPend_last : (clearTickPend s).last = s.last := rfl
@[simp] theorem clearTickPend_tx : (clearTickPend s).tx = s.tx := rfl
@[simp] theorem clearTickPend_reg : (clearTickPend s).reg = s.reg := rfl
@[simp] theorem clearTickPend_evq : (clearTickPend s).evq = s.evq := rfl
@[simp] theorem clearTickPend_flt : (clearTickPend s).flt = s.flt := rfl
@[simp] theorem clearTickPend_ctl : (clearTickPend s).ctl = s.ctl := rfl
@[simp] theorem clearTickPend_cnt : (clearTickPend s).cnt = s.cnt := rfl
@[simp] theorem clearTickPend_inputs : (clearTickPend s).inputs = s.inputs := rfl
@[simp] theorem clearTickPend_out : (clearTickPend s).out = s.out := rfl
@[simp] theorem clearTickPend_sch :
    (clearTickPend s).sch = { s.sch with tickPend := false } := rfl

/-! `startSession` -/
@[simp] theorem startSession_cfg (t : Byte) : (startSession t s).cfg = s.cfg := rfl
@[simp] theorem startSession_df (t : Byte) : (startSession t s).df = s.df := rfl
@[simp] theorem startSession_slot (t : Byte) : (startSession t s).slot = s.slot := rfl
@[simp] theorem startSession_last (t : Byte) : (startSession t s).last = s.last := rfl
@[simp] theorem startSession_tx (t : Byte) : (startSession t s).tx = s.tx := rfl
@[simp] theorem startSession_reg (t : Byte) : (startSession t s).reg = s.reg := rfl
@[simp] theorem startSession_evq (t : Byte) : (startSession t s).evq = s.evq := rfl
@[simp] theorem startSession_flt (t : Byte) : (startSession t s).flt = s.flt := rfl
@[simp] theorem startSession_ctl (t : Byte) : (startSession t s).ctl = s.ctl := rfl
@[simp] theorem startSession_cnt (t : Byte) : (startSession t s).cnt = s.cnt := rfl
@[simp] theorem startSession_inputs (t : Byte) : (startSession t s).inputs = s.inputs := rfl
@[simp] theorem startSession_out (t : Byte) : (startSession t s).out = s.out := rfl

/-! `faultCapture` -/
@[simp] theorem faultCapture_cfg (c : Bool) : (faultCapture c s).cfg = s.cfg := rfl
@[simp] theorem faultCapture_df (c : Bool) : (faultCapture c s).df = s.df := rfl
@[simp] theorem faultCapture_slot (c : Bool) : (faultCapture c s).slot = s.slot := rfl
@[simp] theorem faultCapture_last (c : Bool) : (faultCapture c s).last = s.last := rfl
@[simp] theorem faultCapture_tx (c : Bool) : (faultCapture c s).tx = s.tx := rfl
@[simp] theorem faultCapture_reg (c : Bool) : (faultCapture c s).reg = s.reg := rfl
@[simp] theorem faultCapture_evq (c : Bool) : (faultCapture c s).evq = s.evq := rfl
@[simp] theorem faultCapture_sch (c : Bool) : (faultCapture c s).sch = s.sch := rfl
@[simp] theorem faultCapture_ctl (c : Bool) : (faultCapture c s).ctl = s.ctl := rfl
@[simp] theorem faultCapture_inputs (c : Bool) : (faultCapture c s).inputs = s.inputs := rfl
@[simp] theorem faultCapture_out (c : Bool) : (faultCapture c s).out = s.out := rfl
@[simp] theorem faultCapture_cnt (c : Bool) :
    (faultCapture c s).cnt = s.cnt.incFault := rfl
@[simp] theorem faultCapture_flt (c : Bool) :
    (faultCapture c s).flt = if s.flt.pend then s.flt else { pend := true, code := c } := rfl

/-! `takeInput` -/
@[simp] theorem takeInput_cfg : (takeInput s).cfg = s.cfg := rfl
@[simp] theorem takeInput_df : (takeInput s).df = s.df := rfl
@[simp] theorem takeInput_slot : (takeInput s).slot = s.slot := rfl
@[simp] theorem takeInput_last : (takeInput s).last = s.last := rfl
@[simp] theorem takeInput_tx : (takeInput s).tx = s.tx := rfl
@[simp] theorem takeInput_reg : (takeInput s).reg = s.reg := rfl
@[simp] theorem takeInput_evq : (takeInput s).evq = s.evq := rfl
@[simp] theorem takeInput_sch : (takeInput s).sch = s.sch := rfl
@[simp] theorem takeInput_flt : (takeInput s).flt = s.flt := rfl
@[simp] theorem takeInput_ctl : (takeInput s).ctl = s.ctl := rfl
@[simp] theorem takeInput_cnt : (takeInput s).cnt = s.cnt := rfl
@[simp] theorem takeInput_out : (takeInput s).out = s.out := rfl
@[simp] theorem takeInput_inputs :
    (takeInput s).inputs = s.inputs.tail := rfl

end Sys2Proof.Machine
end

