-- ==== Sys2Proof/Laws/Ops.lean ====
section
/-! SUPPORT. For each conditional operation: the fields it never changes, and one lemma that says once everything it
can do. -/

namespace Sys2Proof.Machine

variable (s : State)

/-! ### Phases handed on -/

@[simp] theorem andThen_next (s : State) (f : State → StepResult) : andThen (.next s) f = f s := rfl

/-- A chain of phases answers a next state exactly when each of its parts does. -/
theorem andThen_eq_next {o : StepResult} {f : State → StepResult} {u : State} :
    andThen o f = .next u ↔ ∃ t, o = .next t ∧ f t = .next u := by
  cases o <;> simp [andThen]

/-! ### `registerRequest` -/

/-- A sent frame adds at most one entry, at the end, and changes nothing else. -/
theorem registerRequest_cases (t : Byte) (p : Pay) (d : Word) :
    (requestKind t = none ∧ registerRequest t p d s = s) ∨
    ∃ k, requestKind t = some k ∧ registerRequest t p d s = regInsert k (ident p) d s := by
  unfold registerRequest
  cases h : requestKind t with
  | none => exact .inl ⟨rfl, rfl⟩
  | some k => exact .inr ⟨k, rfl, rfl⟩

theorem registerRequest_eq (t : Byte) (p : Pay) (d : Word) :
    registerRequest t p d s = { s with reg := (registerRequest t p d s).reg } := by
  rcases registerRequest_cases s t p d with ⟨-, h⟩ | ⟨k, -, h⟩ <;> (rw [h]; try rfl)

/-! ### `txAdvance` -/

/-- One send: nothing for a type without a frame; else the engine moves on, and the frame ends and is counted when
its last byte has been sent. -/
theorem txAdvance_cases :
    (rawFrame s.tx.dtype s.tx.pay = none ∧ txAdvance s = s) ∨
    ∃ raw, rawFrame s.tx.dtype s.tx.pay = some raw ∧
      ((txNext raw s.tx).idx = raw.length ∧
          txAdvance s = { s with tx := { txNext raw s.tx with active := false }, cnt := s.cnt.incTxFrame } ∨
        (txNext raw s.tx).idx ≠ raw.length ∧ txAdvance s = { s with tx := txNext raw s.tx }) := by
  unfold txAdvance
  cases h : rawFrame s.tx.dtype s.tx.pay with
  | none => exact .inl ⟨rfl, rfl⟩
  | some raw =>
    refine .inr ⟨raw, rfl, ?_⟩
    by_cases hl : (txNext raw s.tx).idx = raw.length
    · exact .inl ⟨hl, by simp [hl]⟩
    · exact .inr ⟨hl, by simp [hl]⟩

theorem txAdvance_eq : txAdvance s = { s with tx := (txAdvance s).tx, cnt := (txAdvance s).cnt } := by
  rcases txAdvance_cases s with ⟨-, h⟩ | ⟨raw, -, ⟨-, h⟩ | ⟨-, h⟩⟩ <;> rw [h]

/-! ### `schedTick` and `schedService` -/

/-- One tick of the scheduler: nothing without a session; else the accumulator steps, and at a crossing a resend
falls due or, if one is pending, is lost and counted. -/
theorem schedTick_cases :
    (s.sch.active = false ∧ schedTick s = s) ∨
    (s.sch.active = true ∧
      ((s.sch.acc + s.sch.rate).toNat < s.cfg.thresh ∧
          schedTick s = { s with sch := { s.sch with acc := s.sch.acc + s.sch.rate } } ∨
        s.cfg.thresh ≤ (s.sch.acc + s.sch.rate).toNat ∧
          schedTick s =
            { s with
              sch :=
                { s.sch with acc := s.sch.acc + s.sch.rate - BitVec.ofNat 32 s.cfg.thresh, tickPend := true }
              cnt := if s.sch.tickPend then s.cnt.incSchedOvr else s.cnt })) := by
  unfold schedTick
  cases h : s.sch.active with
  | false => exact .inl ⟨rfl, by simp⟩
  | true =>
    refine .inr ⟨rfl, ?_⟩
    by_cases ht : s.cfg.thresh ≤ (s.sch.acc + s.sch.rate).toNat
    · exact .inr ⟨ht, by simp only [if_true, if_pos ht]⟩
    · exact .inl ⟨Nat.lt_of_not_le ht, by simp only [if_true, if_neg ht]⟩

theorem schedTick_eq : schedTick s = { s with sch := (schedTick s).sch, cnt := (schedTick s).cnt } := by
  rcases schedTick_cases s with ⟨-, h⟩ | ⟨-, ⟨-, h⟩ | ⟨-, h⟩⟩ <;> rw [h]

/-- The resend service: nothing without a pending resend or with the wire busy; a skip when the registry has no
room for the entry it needs; else the entry (if any) and the frame. -/
theorem schedService_cases :
    ((s.sch.tickPend = false ∨ s.tx.active = true) ∧ schedService s = s) ∨
    (s.sch.tickPend = true ∧ s.tx.active = false ∧
      (((requestKind s.sch.dtype).isSome = true ∧ regIsFull s = true ∧
          schedService s =
            { s with sch := { s.sch with tickPend := false }, cnt := s.cnt.incSchedSkip }) ∨
        (((requestKind s.sch.dtype).isSome = false ∨ regIsFull s = false) ∧
          schedService s =
            { s with
              sch := { s.sch with tickPend := false }
              reg := (registerRequest s.sch.dtype s.sch.pay s.sch.timeout s).reg
              tx := (txStart s.sch.dtype s.sch.pay s).tx }))) := by
  unfold schedService
  cases hp : s.sch.tickPend <;> cases ha : s.tx.active <;> simp
  by_cases hc : (requestKind s.sch.dtype).isSome = true ∧ regIsFull s = true
  · left
    simp [hc, clearTickPend]
  · right
    rw [registerRequest_eq]
    refine ⟨?_, ?_⟩
    · cases h : (requestKind s.sch.dtype) <;> simp_all
    · simp [hc, clearTickPend, txStart]

theorem schedService_eq : schedService s =
    { s with sch := (schedService s).sch, reg := (schedService s).reg, tx := (schedService s).tx
             cnt := (schedService s).cnt } := by
  rcases schedService_cases s with ⟨-, h⟩ | ⟨-, -, ⟨-, -, h⟩ | ⟨-, h⟩⟩ <;> rw [h]

/-! ### The event queue's producers -/

/-- The timeout push: it waits without an expired entry or without room; else the first expired entry leaves the
registry and its event joins the queue. -/
theorem timeoutPush_cases :
    ((s.reg.find? (·.expired) = none ∨ evqHasRoom s = false) ∧ timeoutPush s = s) ∨
    ∃ e, s.reg.find? (·.expired) = some e ∧ evqHasRoom s = true ∧
      timeoutPush s =
        { s with
          reg := s.reg.eraseP (·.expired), evq := s.evq ++ [timeoutEvent e], cnt := s.cnt.incTimeout } := by
  unfold timeoutPush
  cases h : s.reg.find? (·.expired) with
  | none => exact .inl ⟨.inl rfl, rfl⟩
  | some e =>
    cases hr : evqHasRoom s with
    | false => exact .inl ⟨.inr rfl, by simp⟩
    | true => exact .inr ⟨e, rfl, rfl, by simp [evqPush]⟩

theorem timeoutPush_eq : timeoutPush s =
    { s with reg := (timeoutPush s).reg, evq := (timeoutPush s).evq, cnt := (timeoutPush s).cnt } := by
  rcases timeoutPush_cases s with ⟨-, h⟩ | ⟨e, -, -, h⟩ <;> rw [h]

/-- The fault push: it waits without a fault or without room; else the fault's event joins the queue. -/
theorem faultPush_cases :
    ((s.flt.pend = false ∨ evqHasRoom s = false) ∧ faultPush s = s) ∨
    (s.flt.pend = true ∧ evqHasRoom s = true ∧
      faultPush s = { s with flt := { s.flt with pend := false }, evq := s.evq ++ [faultEvent s.flt.code] }) := by
  unfold faultPush
  cases hp : s.flt.pend <;> cases hr : evqHasRoom s <;> simp [evqPush]

theorem faultPush_eq : faultPush s = { s with flt := (faultPush s).flt, evq := (faultPush s).evq } := by
  rcases faultPush_cases s with ⟨-, h⟩ | ⟨-, -, h⟩ <;> rw [h]

/-- A response in the slot: a stall without room; else its entry, if any, is removed, its event pushed and the slot
emptied. -/
theorem respond_cases (code : Byte) (k : Kind) :
    (evqHasRoom s = false ∧ respond code k s = s) ∨
    (evqHasRoom s = true ∧
      ((s.reg.any (answers k (ident s.slot.pay)) = true ∧
          respond code k s =
            { s with
              reg := s.reg.eraseP (answers k (ident s.slot.pay))
              evq := s.evq ++ [responseEvent code true k s.slot.pay]
              slot := { s.slot with full := false } }) ∨
        (s.reg.any (answers k (ident s.slot.pay)) = false ∧
          respond code k s =
            { s with
              evq := s.evq ++ [responseEvent code false k s.slot.pay]
              cnt := s.cnt.incLate
              slot := { s.slot with full := false } }))) := by
  unfold respond
  cases hr : evqHasRoom s with
  | false => exact .inl ⟨rfl, by simp⟩
  | true =>
    refine .inr ⟨rfl, ?_⟩
    cases hm : s.reg.any (answers k (ident s.slot.pay)) with
    | true => exact .inl ⟨rfl, by simp [regMatchRemove, hm, evqPush, emptySlot]⟩
    | false =>
      refine .inr ⟨rfl, ?_⟩
      have : s.reg.eraseP (answers k (ident s.slot.pay)) = s.reg :=
        List.eraseP_of_forall_not (by simpa using hm)
      simp [regMatchRemove, hm, this, evqPush, emptySlot]

theorem respond_eq (code : Byte) (k : Kind) : respond code k s =
    { s with reg := (respond code k s).reg, evq := (respond code k s).evq, cnt := (respond code k s).cnt
             slot := (respond code k s).slot } := by
  rcases respond_cases s code k with ⟨-, h⟩ | ⟨-, ⟨-, h⟩ | ⟨-, h⟩⟩ <;> rw [h]

/-! ### The deframer's completion -/

/-- A frame at its end: emitted if its length is the size of its type, else counted; the deframer is idle after. -/
theorem complete_cases (sz : Option Nat) :
    (sz = some s.df.len.toNat ∧ complete sz s = goIdle (emit s)) ∨
    (sz ≠ some s.df.len.toNat ∧ complete sz s = goIdle { s with cnt := s.cnt.incLenErr }) := by
  unfold complete lengthFits
  by_cases h : sz = some s.df.len.toNat <;> simp [h]

theorem complete_eq (sz : Option Nat) : complete sz s =
    { s with df := { s.df with state := .awaitingSync, pend := false }, slot := (complete sz s).slot
             last := (complete sz s).last, cnt := (complete sz s).cnt } := by
  rcases complete_cases s sz with ⟨-, h⟩ | ⟨-, h⟩ <;> rw [h] <;> rfl

/-- The counters after the length check. -/
def lengthCounted (sz : Option Nat) (s : State) : Counters := if lengthFits sz s then s.cnt else s.cnt.incMalLen

/-- The length check: counted when it fails; then the end of the frame at a length of 0, else the payload. -/
theorem checkLength_cases (sz : Option Nat) :
    (s.df.len = 0 ∧ checkLength sz s = complete sz { s with cnt := lengthCounted sz s }) ∨
    (s.df.len ≠ 0 ∧
      checkLength sz s = { s with df := { s.df with state := .readingPayload }, cnt := lengthCounted sz s }) := by
  by_cases h : s.df.len = 0
  · refine .inl ⟨h, ?_⟩
    cases hf : lengthFits sz s <;> simp only [checkLength, lengthCounted, hf, if_true, Bool.false_eq_true, if_false, h]
  · refine .inr ⟨h, ?_⟩
    cases hf : lengthFits sz s <;> simp only [checkLength, lengthCounted, hf, if_true, Bool.false_eq_true, if_false, h]

theorem checkLength_eq (sz : Option Nat) : checkLength sz s =
    { s with df := (checkLength sz s).df, slot := (checkLength sz s).slot, last := (checkLength sz s).last
             cnt := (checkLength sz s).cnt } := by
  rcases checkLength_cases s sz with ⟨-, h⟩ | ⟨-, h⟩ <;> rw [h]
  rw [complete_eq]

end Sys2Proof.Machine
end

