-- ==== Sys2Proof/Laws/Receive.lean ====
section
/-! SUPPORT. The receive path as pure functions: every FRAME row answers a next state at every stage, and so does
the deframer at every byte. -/

namespace Sys2Proof.Machine

/-- What the receive path does at a stage for a data type. -/
def stageState (t : Byte) (st : FrameStage) (s : State) : State :=
  match st with
  | .typed => if t ∈ recognisedTypes then acceptType t s else rejectType t s
  | .lengthRead => checkLength (size t) s
  | .completed => complete (size t) s
  | .dispatched =>
    if t = 2#8 then respond 2#8 .tc s
    else if t = 3#8 then respond 3#8 .tm s
    else if t = 7#8 then respond 7#8 .tm s
    else dropFrame s

/-- A byte with a given value. -/
theorem byte_eq_of_toNat {t : Byte} {n : Nat} (h : t.toNat = n) : t = BitVec.ofNat 8 n := by
  subst h; simp

/-- Every FRAME row answers the state of its stage. -/
theorem runAt_dataType (t : Byte) (st : FrameStage) (s : State) :
    runAt (.dataType t st) s = .next (stageState t st s) := by
  simp only [runAt, decode, decodeDataType]
  split
  case h_8 h1 h2 h3 h4 h5 h6 h7 =>
    have hne : ∀ n : Nat, n < 256 → t = BitVec.ofNat 8 n → t.toNat = n := by
      intro n hn h; subst h; simp; omega
    have hs : size t = none := by
      unfold size
      split <;> simp_all
    have hr : t ∉ recognisedTypes := by
      simp only [recognisedTypes, List.mem_cons, List.not_mem_nil, or_false, not_or]
      exact ⟨fun h => h1 (hne 1 (by omega) h), fun h => h2 (hne 2 (by omega) h),
        fun h => h3 (hne 3 (by omega) h), fun h => h4 (hne 4 (by omega) h),
        fun h => h5 (hne 5 (by omega) h), fun h => h6 (hne 6 (by omega) h),
        fun h => h7 (hne 7 (by omega) h)⟩
    have h2' : t ≠ 2#8 := fun h => h2 (hne 2 (by omega) h)
    have h3' : t ≠ 3#8 := fun h => h3 (hne 3 (by omega) h)
    have h7' : t ≠ 7#8 := fun h => h7 (hne 7 (by omega) h)
    cases st <;> simp [exec, execInvalidDataType, stageState, hs, hr, h2', h3', h7']
  all_goals
    rename_i h
    have ht := byte_eq_of_toNat h
    subst ht
    cases st <;> rfl

/-- What `Accept(v)` does. -/
def acceptState (v : Byte) (s : State) : State :=
  match s.df.state with
  | .awaitingSync => s
  | .readingHeader => if s.df.hcnt < 3 then storeReserved v s else stageState v .typed s
  | .readingLength =>
    if s.df.lcnt + 1 = 4 then stageState s.df.dtype .lengthRead (shiftLength v s) else shiftLength v s
  | .readingPayload =>
    if s.df.pcnt + 1 = s.df.len then stageState s.df.dtype .completed (storePayload v s) else storePayload v s

theorem accept_eq (v : Byte) (s : State) : accept v s = .next (acceptState v s) := by
  unfold accept acceptState
  cases s.df.state with
  | awaitingSync => rfl
  | readingHeader =>
    simp only [runAt_dataType]
    split <;> rfl
  | readingLength =>
    simp only [runAt_dataType]
    show (if s.df.lcnt + 1 = 4 then _ else _) = _
    split <;> rfl
  | readingPayload =>
    simp only [runAt_dataType]
    show (if s.df.pcnt + 1 = s.df.len then _ else _) = _
    split <;> rfl

/-- What `DfStep(b)` does. -/
def dfState (b : Byte) (s : State) : State :=
  if s.df.state = .awaitingSync then
    if b = SYNC then setPend (!s.df.pend) s else if s.df.pend then startFrame b s else s
  else if b = SYNC then
    if s.df.pend then acceptState SYNC (setPend false s) else setPend true s
  else if s.df.pend then startFrame b { s with cnt := s.cnt.incSyncErr } else acceptState b s

/-- The deframer answers a next state at every byte. -/
theorem dfStep_eq (b : Byte) (s : State) : dfStep b s = .next (dfState b s) := by
  unfold dfStep dfState
  cases hs : s.df.state <;> by_cases hb : b = SYNC <;> cases hp : s.df.pend <;> simp [hb, accept_eq]

/-- The dispatcher's phase answers a next state. -/
theorem dispatchSlot_eq (s : State) : dispatchSlot s =
    .next (if s.slot.full then stageState s.slot.dtype .dispatched s else s) := by
  unfold dispatchSlot
  split <;> simp [runAt_dataType]

/-- Taking bytes never stops. -/
theorem receiveAll_next (bs : List Byte) (s : State) : ∃ t, receiveAll bs s = .next t := by
  induction bs generalizing s with
  | nil => exact ⟨s, rfl⟩
  | cons b bs ih => simpa [receiveAll, dfStep_eq] using ih (dfState b s)

/-! ### What the deframer leaves alone (41_deframer.md R161) -/

theorem stageState_df_eq (t : Byte) (st : FrameStage) (h : st ≠ .dispatched) (s : State) :
    stageState t st s =
      { s with df := (stageState t st s).df, slot := (stageState t st s).slot, last := (stageState t st s).last
               cnt := (stageState t st s).cnt } := by
  cases st with
  | typed => unfold stageState; dsimp only; split <;> rfl
  | lengthRead => exact checkLength_eq s (size t)
  | completed => unfold stageState; dsimp only; rw [complete_eq]
  | dispatched => exact absurd rfl h

theorem acceptState_eq (v : Byte) (s : State) : acceptState v s =
    { s with df := (acceptState v s).df, slot := (acceptState v s).slot, last := (acceptState v s).last
             cnt := (acceptState v s).cnt } := by
  unfold acceptState
  split
  · rfl
  · split
    · rfl
    · rw [stageState_df_eq _ _ (by decide)]
  · split
    · rw [stageState_df_eq _ _ (by decide)]; rfl
    · rfl
  · split
    · rw [stageState_df_eq _ _ (by decide)]; rfl
    · rfl

/-- A received byte changes the deframer, the slot, the last-frame capture and the counters only. -/
theorem dfState_eq (b : Byte) (s : State) : dfState b s =
    { s with df := (dfState b s).df, slot := (dfState b s).slot, last := (dfState b s).last
             cnt := (dfState b s).cnt } := by
  unfold dfState
  split_ifs <;> first | rfl | (rw [acceptState_eq]; rfl) | rw [acceptState_eq]

end Sys2Proof.Machine
end

