-- ==== Sys2Proof/Laws/Cycle.lean ====
section
/-! SUPPORT. A cycle taken apart: the phases before the host's write, the write, and the phases after it. -/

namespace Sys2Proof.Machine

/-! ### Commands and writes -/

/-- A command word's command is the one the decoder reads (45_commands.md R231 against 30_encoding.md R101). -/
theorem wordWellFormed_iff (d : Word) : wordWellFormed d = true ↔
    cmdHigh d = 0 ∧ cmdReserved d = 0 ∧ (cmdOp d).toNat ≤ 6 ∧
      (cmdType d = 0 ∨ (cmdOp d).toNat = 1 ∨ (cmdOp d).toNat = 2) := by
  have h16 : d >>> 16 = 0 ↔ cmdHigh d = 0 := by
    unfold cmdHigh
    constructor <;> intro h
    · apply BitVec.eq_of_toNat_eq
      have := congrArg BitVec.toNat h
      simp only [BitVec.toNat_ushiftRight, BitVec.ofNat_eq_ofNat, BitVec.toNat_ofNat] at this
      simp [BitVec.extractLsb'_toNat, this]
    · apply BitVec.eq_of_toNat_eq
      have := congrArg BitVec.toNat h
      have hd := d.isLt
      simp only [BitVec.extractLsb'_toNat, BitVec.ofNat_eq_ofNat, BitVec.toNat_ofNat, Nat.shiftRight_eq_div_pow]
        at this
      simp only [BitVec.toNat_ushiftRight, BitVec.ofNat_eq_ofNat, BitVec.toNat_ofNat, Nat.shiftRight_eq_div_pow]
      omega
  have hop : ∀ n : Nat, n < 16 → (d.extractLsb' 0 4 = BitVec.ofNat 4 n ↔ (cmdOp d).toNat = n) := by
    intro n hn
    unfold cmdOp
    constructor <;> intro h
    · rw [h]; simp; omega
    · apply BitVec.eq_of_toNat_eq; rw [h]; simp; omega
  unfold wordWellFormed
  have h1 := hop 1 (by omega)
  have h2 := hop 2 (by omega)
  simp only [Bool.and_eq_true, Bool.or_eq_true, beq_iff_eq, decide_eq_true_eq, h16]
  change ((_ ∧ _) ∧ _) ∧ ((_ ∨ d.extractLsb' 0 4 = BitVec.ofNat 4 1) ∨ d.extractLsb' 0 4 = BitVec.ofNat 4 2) ↔ _
  rw [h1, h2]
  unfold cmdReserved cmdOp cmdType
  tauto

/-- Every command answers a next state that differs in the control state, the engine, the registry, the scheduler,
the event queue and the counters only. -/
theorem exec_command_frame (d : Word) (s : State) : ∃ t, exec (decodeCommand d) s = .next t ∧
    t = { s with ctl := t.ctl, tx := t.tx, reg := t.reg, sch := t.sch, evq := t.evq, cnt := t.cnt } := by
  have hbad : ∃ t, exec (.badCmd d) s = .next t ∧
      t = { s with ctl := t.ctl, tx := t.tx, reg := t.reg, sch := t.sch, evq := t.evq, cnt := t.cnt } :=
    ⟨_, rfl, rfl⟩
  have hno : ∀ i : Instr, (∃ t, exec i s = .next t ∧
      t = { s with ctl := t.ctl, tx := t.tx, reg := t.reg, sch := t.sch, evq := t.evq, cnt := t.cnt }) →
      ∃ t, exec (noType d i) s = .next t ∧
      t = { s with ctl := t.ctl, tx := t.tx, reg := t.reg, sch := t.sch, evq := t.evq, cnt := t.cnt } := by
    intro i hi
    unfold noType
    split
    · exact hi
    · exact hbad
  unfold decodeCommand
  split
  · split
    · exact hno _ ⟨_, rfl, rfl⟩
    · refine ⟨_, rfl, ?_⟩
      split
      · rfl
      · split
        · rfl
        · split
          · rfl
          · rw [registerRequest_eq]; rfl
    · refine ⟨_, rfl, ?_⟩
      split
      · rfl
      · split <;> rfl
    · refine hno _ ⟨_, rfl, ?_⟩
      split
      · rfl
      · split <;> rfl
    · exact hno _ ⟨_, rfl, rfl⟩
    · refine hno _ ⟨_, rfl, ?_⟩
      split <;> rfl
    · exact hno _ ⟨_, rfl, rfl⟩
    · exact hbad
  · exact hbad

/-- A store differs in the control state only. -/
theorem regStore_eq (w : WordIdx) (d : Word) (s : State) :
    regStore w d s = { s with ctl := (regStore w d s).ctl } := by
  unfold regStore
  split <;> rfl

/-- The write phase answers a next state that differs where a command may. -/
theorem writePhase_frame (op : BusOp) (s : State) : ∃ t, writePhase op s = .next t ∧
    t = { s with ctl := t.ctl, tx := t.tx, reg := t.reg, sch := t.sch, evq := t.evq, cnt := t.cnt } := by
  unfold writePhase
  split
  · rename_i w d
    by_cases h : w = cmdIdx
    · simpa [runAt, decode, h] using exec_command_frame d s
    · refine ⟨regStore w d s, by simp [runAt, decode, h, exec, execWr], ?_⟩
      rw [regStore_eq]
  · exact ⟨s, rfl, rfl⟩
  · exact ⟨s, rfl, rfl⟩

/-! ### The other phases -/

/-- Reading a register does not see the outputs. -/
theorem regRead_out (s : State) (o : CycleOut) (w : WordIdx) : regRead { s with out := o } w = regRead s w := rfl

/-- "The session payload cannot be read back" (10_state.md R52): every word reads the same whatever `sch_pay` holds. -/
theorem regRead_sch_pay (s : State) (p : Pay) (w : WordIdx) :
    regRead { s with sch := { s.sch with pay := p } } w = regRead s w := by
  unfold regRead
  split <;> rfl

/-- `bus_rdata` of R23. -/
def readData (op : BusOp) (s : State) : Word :=
  match op with
  | .read w => regRead s w
  | .idle | .write _ _ => 0

/-- The phases before the write, as one state. -/
def beforeState (i : CycleIn) (o : CycleOut) (s : State) : State :=
  sendPhase i s.tx.active (tickPhase i { s with out := { o with busRdata := readData i.busOp s } })

theorem portOutputs_busRdata {s : State} {o : CycleOut} (h : portOutputs s = some o) : o.busRdata = 0 := by
  unfold portOutputs at h
  split at h
  · cases hb : txByte s.tx <;> simp [hb] at h; subst h; rfl
  · simp at h; subst h; rfl

theorem beforeWrite_eq {i : CycleIn} {o : CycleOut} {s : State} (h : portOutputs s = some o) :
    beforeWrite i o s = .next (beforeState i o s) := by
  have ho := portOutputs_busRdata h
  unfold beforeWrite beforeState readPhase readData
  cases hop : i.busOp with
  | read w => rfl
  | idle => simp only [← ho]; rfl
  | write w d => simp only [← ho]; rfl

/-- P5 as a state. -/
def receiveState (i : CycleIn) (wasFull : Bool) (s : State) : State :=
  if i.rxValid && !wasFull then dfState i.rxByte s else s

/-- P6 as a state. -/
def dispatchState (s : State) : State := if s.slot.full then stageState s.slot.dtype .dispatched s else s

/-- The phases after the write, as one state. -/
def afterState (i : CycleIn) (wasFull : Bool) (s : State) : State :=
  pushPhase (faultPhase i (dispatchState (receiveState i wasFull (schedService s))))

theorem afterWrite_eq (i : CycleIn) (wasFull : Bool) (s : State) :
    afterWrite i wasFull s = .next (afterState i wasFull s) := by
  have h : ∀ t, receivePhase i wasFull t = .next (receiveState i wasFull t) := by
    intro t
    unfold receivePhase receiveState
    split
    · exact dfStep_eq _ _
    · rfl
  simp [afterWrite, afterState, h, dispatchSlot_eq, dispatchState]

/-- A cycle that answers a next state is a reset, or its phases in order. -/
theorem cycle_cases {i : CycleIn} {s t : State} (h : cycle i s = .next t) :
    (i.rst = true ∧ t = State.resetWith s.cfg s.inputs) ∨
    (i.rst = false ∧ ∃ o u, portOutputs s = some o ∧ writePhase i.busOp (beforeState i o s) = .next u ∧
      t = afterState i s.slot.full u) := by
  unfold cycle at h
  cases hr : i.rst with
  | true =>
    rw [hr] at h
    injection h with h
    exact .inl ⟨rfl, h.symm⟩
  | false =>
    right
    rw [hr] at h
    simp only [Bool.false_eq_true, if_false] at h
    split at h
    · cases h
    · rename_i o ho
      rw [beforeWrite_eq ho, andThen_next] at h
      obtain ⟨u, hu, hu'⟩ := andThen_eq_next.mp h
      rw [afterWrite_eq] at hu'
      injection hu' with hu'
      exact ⟨rfl, o, u, ho, hu, hu'.symm⟩

/-- A cycle without reset whose outputs have values answers a next state. -/
theorem cycle_next {i : CycleIn} {s : State} {o : CycleOut} (hr : i.rst = false) (ho : portOutputs s = some o) :
    ∃ u, writePhase i.busOp (beforeState i o s) = .next u ∧ cycle i s = .next (afterState i s.slot.full u) := by
  obtain ⟨u, hu, -⟩ := writePhase_frame i.busOp (beforeState i o s)
  refine ⟨u, hu, ?_⟩
  simp only [cycle, hr, ho, Bool.false_eq_true, if_false, beforeWrite_eq ho, andThen_next, hu, afterWrite_eq]

end Sys2Proof.Machine
end

