-- ==== Sys2Proof/Laws/PerInstr.lean ====
section
/-! SUPPORT. The family `TableRow`, made per instruction: the encoding of every instruction has the bits that its row
of spec/opcode_table.json fixes. -/

namespace Sys2Proof.Laws.TableRow

/-- The bits a place shows the table: the command word of a write to CMD, or a data-type byte. -/
def bits : Site → Word
  | .bus .idle => 0
  | .bus (.read _) => 0
  | .bus (.write _ d) => d
  | .dataType t _ => t.zeroExtend 32

/-- "mask" of the row. -/
def mask : Instr → Word
  | .nop => 0xFFFFFFFF#32
  | .send _ => 0xFFFF00FF#32
  | .schedStart _ => 0xFFFF00FF#32
  | .schedAdjust => 0xFFFFFFFF#32
  | .schedStop => 0xFFFFFFFF#32
  | .evtPop => 0xFFFFFFFF#32
  | .clrCnt => 0xFFFFFFFF#32
  | .badCmd _ => 0
  | .rd _ => 0
  | .wr _ _ => 0
  | .telecommandRequest _ => 0xFF#32
  | .telecommandResponse _ => 0xFF#32
  | .telemetryData _ => 0xFF#32
  | .telemetryRequest _ => 0xFF#32
  | .telemetryRequestRejection _ => 0xFF#32
  | .fileUpload _ => 0xFF#32
  | .fileDownload _ => 0xFF#32
  | .invalidDataType _ _ => 0

/-- "match" of the row. -/
def pattern : Instr → Word
  | .nop => 0x00000000#32
  | .send _ => 0x00000001#32
  | .schedStart _ => 0x00000002#32
  | .schedAdjust => 0x00000003#32
  | .schedStop => 0x00000004#32
  | .evtPop => 0x00000005#32
  | .clrCnt => 0x00000006#32
  | .badCmd _ => 0
  | .rd _ => 0
  | .wr _ _ => 0
  | .telecommandRequest _ => 0x01#32
  | .telecommandResponse _ => 0x02#32
  | .telemetryData _ => 0x03#32
  | .telemetryRequest _ => 0x04#32
  | .telemetryRequestRejection _ => 0x07#32
  | .fileUpload _ => 0x05#32
  | .fileDownload _ => 0x06#32
  | .invalidDataType _ _ => 0

/-- The encoding of an instruction has the bits its row fixes. -/
def Statement (i : Instr) : Prop := bits (encode i) &&& mask i = pattern i

theorem nop : Statement .nop := by unfold Statement; decide
theorem send (t : Byte) : Statement (.send t) := by unfold Statement; revert t; decide
theorem schedStart (t : Byte) : Statement (.schedStart t) := by unfold Statement; revert t; decide
theorem schedAdjust : Statement .schedAdjust := by unfold Statement; decide
theorem schedStop : Statement .schedStop := by unfold Statement; decide
theorem evtPop : Statement .evtPop := by unfold Statement; decide
theorem clrCnt : Statement .clrCnt := by unfold Statement; decide
theorem badCmd (d : Word) : Statement (.badCmd d) := by simp [Statement, mask, pattern]
theorem rd (w : WordIdx) : Statement (.rd w) := by simp [Statement, mask, pattern]
theorem wr (w : WordIdx) (d : Word) : Statement (.wr w d) := by simp [Statement, mask, pattern]
theorem telecommandRequest (st : FrameStage) : Statement (.telecommandRequest st) := by unfold Statement; cases st <;> decide
theorem telecommandResponse (st : FrameStage) : Statement (.telecommandResponse st) := by unfold Statement; cases st <;> decide
theorem telemetryData (st : FrameStage) : Statement (.telemetryData st) := by unfold Statement; cases st <;> decide
theorem telemetryRequest (st : FrameStage) : Statement (.telemetryRequest st) := by unfold Statement; cases st <;> decide
theorem telemetryRequestRejection (st : FrameStage) : Statement (.telemetryRequestRejection st) := by
  unfold Statement; cases st <;> decide
theorem fileUpload (st : FrameStage) : Statement (.fileUpload st) := by unfold Statement; cases st <;> decide
theorem fileDownload (st : FrameStage) : Statement (.fileDownload st) := by unfold Statement; cases st <;> decide
theorem invalidDataType (t : Byte) (st : FrameStage) : Statement (.invalidDataType t st) := by
  simp [Statement, mask, pattern]

end Sys2Proof.Laws.TableRow
end

