-- ==== Sys2Proof/Tests/Slice0.lean ====
section
/-! SUPPORT. Tests. The expected values are spec/95_test_vectors.md's and the rules' own examples (named beside each
test), or are read off the encodings of spec/30_encoding.md. The last part shows, for each statement of the
obligations that has hypotheses, concrete states and operands that meet them, clause by clause. -/

namespace Sys2Proof.Tests

open Sys2Proof.Machine

/-- A field of the next state, if there is one. -/
def field {α : Type} (r : StepResult) (f : State → α) : Option α :=
  match r with
  | .next s => some (f s)
  | .fault _ => none
  | .refused _ => none

/-- A payload from its first four bytes. -/
def pay4 (a b c d : Byte) : Pay := #v[a, b, c, d, 0, 0, 0, 0, 0, 0, 0, 0]

/-- Right after reset with other argument registers. -/
def withArgs (timeout rate : Word) (pay : Pay) : State :=
  { State.reset with
    ctl := { Control.reset with argTimeout := timeout, argRate := rate, argPay := pay } }

/-- An event record with a code. -/
def event (code : Byte) : Event := { code := code, matched := false, kind := .tm, id := 0, data := Pay.zero }

/-- A live entry. -/
def live (k : Kind) (id cnt : Word) : Entry := { kind := k, id := id, cnt := cnt, expired := false }

/-- An expired entry. -/
def dead (k : Kind) (id : Word) : Entry := { kind := k, id := id, cnt := 0, expired := true }

/-- Right after reset with a deframer in a state. -/
def receiving (d : Deframer) : State := { State.reset with df := d }

/-- The cycle that only makes a bus access. -/
def access (op : BusOp) : CycleIn := { CycleIn.idle with busOp := op }

/-! ### Well-formedness: an ill-formed term for each check, refused, beside its well-formed neighbour -/

theorem test_wf_badCmd_refuses_nop_word : (Instr.badCmd 0x00000000#32).wellFormed = false := by decide
theorem test_wf_badCmd_refuses_send_word : (Instr.badCmd 0x0000FF01#32).wellFormed = false := by decide
theorem test_wf_badCmd_takes_opcode_7 : (Instr.badCmd 0x00000007#32).wellFormed = true := by decide
theorem test_wf_badCmd_takes_bit_4 : (Instr.badCmd 0x00000010#32).wellFormed = true := by decide
theorem test_wf_badCmd_takes_bit_16 : (Instr.badCmd 0x00010001#32).wellFormed = true := by decide
theorem test_wf_badCmd_takes_type_on_adjust : (Instr.badCmd 0x00000403#32).wellFormed = true := by decide
theorem test_wf_wr_refuses_cmd : (Instr.wr 2#6 0x00000000#32).wellFormed = false := by decide
theorem test_wf_wr_takes_others : (Instr.wr 1#6 0#32).wellFormed = true ∧ (Instr.wr 3#6 0#32).wellFormed = true := by
  decide
theorem test_wf_invalidDataType_refuses_7 : (Instr.invalidDataType 7#8 .typed).wellFormed = false := by decide
theorem test_wf_invalidDataType_refuses_1 : (Instr.invalidDataType 1#8 .typed).wellFormed = false := by decide
theorem test_wf_invalidDataType_takes_0_and_8 :
    (Instr.invalidDataType 0#8 .typed).wellFormed = true ∧ (Instr.invalidDataType 8#8 .typed).wellFormed = true := by
  decide

/-! ### Decoding: every constructor from a word written out from R100, R101, R93 and R21

A command word, bit by bit: 31..16 zero, 15..8 TYPE, 7..4 zero, 3..0 OP. -/

theorem test_decode_nop : decodeTableWord 32 0b00000000000000000000000000000000 = some .nop := by decide
theorem test_decode_send : decodeTableWord 32 0b00000000000000000000010000000001 = some (.send 4#8) := by decide
theorem test_decode_schedStart : decodeTableWord 32 0b00000000000000000000010000000010 = some (.schedStart 4#8) := by
  decide
theorem test_decode_schedAdjust : decodeTableWord 32 0b00000000000000000000000000000011 = some .schedAdjust := by decide
theorem test_decode_schedStop : decodeTableWord 32 0b00000000000000000000000000000100 = some .schedStop := by decide
theorem test_decode_evtPop : decodeTableWord 32 0b00000000000000000000000000000101 = some .evtPop := by decide
theorem test_decode_clrCnt : decodeTableWord 32 0b00000000000000000000000000000110 = some .clrCnt := by decide
theorem test_decode_badCmd : decodeTableWord 32 0b00000000000000000000000000000111 = some (.badCmd 7#32) := by decide
theorem test_decode_badCmd_high :
    decodeTableWord 32 0b10000000000000000000000000000001 = some (.badCmd 0x80000001#32) := by decide
theorem test_decode_rd : (decode (.bus (.read 0x11#6))).toOption = some (.rd 17#6) := by decide
theorem test_decode_wr : (decode (.bus (.write 0x1C#6 0x123#32))).toOption = some (.wr 28#6 0x123#32) := by decide
theorem test_decode_idle : (decode (.bus .idle)).toOption = none := by decide
theorem test_decode_telecommandRequest : decodeTableWord 8 0b00000001 = some (.telecommandRequest .typed) := by decide
theorem test_decode_telecommandResponse : decodeTableWord 8 0b00000010 = some (.telecommandResponse .typed) := by decide
theorem test_decode_telemetryData : decodeTableWord 8 0b00000011 = some (.telemetryData .typed) := by decide
theorem test_decode_telemetryRequest : decodeTableWord 8 0b00000100 = some (.telemetryRequest .typed) := by decide
theorem test_decode_fileUpload : decodeTableWord 8 0b00000101 = some (.fileUpload .typed) := by decide
theorem test_decode_fileDownload : decodeTableWord 8 0b00000110 = some (.fileDownload .typed) := by decide
theorem test_decode_telemetryRequestRejection :
    decodeTableWord 8 0b00000111 = some (.telemetryRequestRejection .typed) := by decide
theorem test_decode_invalidDataType : decodeTableWord 8 0b01010101 = some (.invalidDataType 0x55#8 .typed) := by decide

/-! ### Encoding and framing: the source's two worked examples -/

/-- 40_encoder.md R132, vector E-1. -/
theorem test_wireFrame_E1 : wireFrame 4#8 (pay4 0 0 0 1) =
    some [0x55#8, 0xDE#8, 0xAD#8, 0xBE#8, 4#8, 0#8, 0#8, 0#8, 4#8, 0#8, 0#8, 0#8, 1#8] := by decide

/-- R133, vector E-2: a stuffed payload byte. -/
theorem test_wireFrame_E2 : wireFrame 2#8 (#v[1, 2, 0x55, 3, 4, 0, 0, 0, 0, 0, 0, 0]) =
    some [0x55#8, 0xDE#8, 0xAD#8, 0xBE#8, 2#8, 0#8, 0#8, 0#8, 5#8, 1#8, 2#8, 0x55#8, 0x55#8, 3#8, 4#8] := by decide

/-- 44_scheduler.md, SchedTick's example: rate 2000 and phase 998000 cross the threshold exactly. -/
theorem test_schedTick_crosses :
    (schedTick { State.reset with
      sch := { Scheduler.reset with active := true, rate := 2000#32, acc := 998000#32 } }).sch =
    { Scheduler.reset with active := true, rate := 2000#32, acc := 0#32, tickPend := true } := by decide

/-- 43_registry.md R197's example. -/
theorem test_regMatchRemove_earliest :
    (regMatchRemove .tc 3#32 { State.reset with reg := [live .tc 3 100, live .tc 3 400] }).1.reg = [live .tc 3 400] := by
  decide

/-! ### One step for each instruction -/

/-- CM-7, from a state with another result. -/
theorem test_nop : field (exec .nop { State.reset with ctl := { Control.reset with cmdResult := 0x508#32 } })
    (·.ctl.cmdResult) = some 0#32 := by decide

/-- R236's example. -/
theorem test_send : field (exec (.send 4#8) (withArgs 500 0 (pay4 0 0 0 1)))
    (fun u => (u.reg, regRead u 3#6, regRead u 9#6)) = some ([live .tm 1 500], 0x100#32, 0x00040000#32) := by decide

/-- CM-5. -/
theorem test_send_badType : field (exec (.send 8#8) State.reset) (fun u => (u.ctl.cmdResult, u.tx.active)) =
    some (0x102#32, false) := by decide

/-- SC-16. -/
theorem test_schedStart : field (exec (.schedStart 4#8) (withArgs 0 1000000 Pay.zero))
    (fun u => (regRead u 23#6, regRead u 24#6, u.ctl.cmdResult)) = some (4#32, 0xF4240#32, 0x200#32) := by decide

/-- SC-13. -/
theorem test_schedStart_rateRange : field (exec (.schedStart 4#8) (withArgs 0 1000001 Pay.zero))
    (fun u => (u.ctl.cmdResult, u.sch.active)) = some (0x206#32, false) := by decide

/-- SC-5: the phase is kept. -/
theorem test_schedAdjust : field (exec .schedAdjust { withArgs 0 2000 Pay.zero with
      sch := { Scheduler.reset with active := true, dtype := 3#8, rate := 1000#32, acc := 400000#32 } })
    (fun u => (u.sch.acc, u.sch.rate)) = some (400000#32, 2000#32) := by decide

/-- SC-14. -/
theorem test_schedAdjust_noSession : field (exec .schedAdjust State.reset) (·.ctl.cmdResult) = some 0x307#32 := by
  decide

/-- SC-7. -/
theorem test_schedStop : field (exec .schedStop { State.reset with
      sch := { Scheduler.reset with active := true, dtype := 4#8, acc := 7#32, tickPend := true } })
    (fun u => (regRead u 1#6, u.ctl.cmdResult, u.sch.acc)) = some (0#32, 0x400#32, 0#32) := by decide

/-- R241's example. -/
theorem test_evtPop : field (exec .evtPop { State.reset with evq := [event 0x80, event 0x81] })
    (fun u => (u.evq, u.ctl.cmdResult)) = some ([event 0x81], 0x500#32) := by decide

/-- CM-6. -/
theorem test_evtPop_empty : field (exec .evtPop State.reset) (·.ctl.cmdResult) = some 0x508#32 := by decide

/-- R242: the escape counter is no counter of R59. -/
theorem test_clrCnt : field (exec .clrCnt { State.reset with
      cnt := { Counters.zero with typeErr := 1, schedOvr := 2 }, tx := { TxEngine.reset with escCnt := 5 } })
    (fun u => (u.cnt, u.tx.escCnt, u.ctl.cmdResult)) = some (Counters.zero, 5#8, 0x600#32) := by decide

/-- CM-1. -/
theorem test_badCmd_opcode_7 : field (exec (.badCmd 0x7#32) State.reset) (·.ctl.cmdResult) = some 0x701#32 := by decide

/-- CM-3, through a write to CMD. -/
theorem test_badCmd_bit_16 : field (exec (.wr 2#6 0x00010001#32) State.reset) (·.ctl.cmdResult) = some 0x101#32 := by
  decide

/-- CM-13: an unmapped word. -/
theorem test_rd_unmapped : field (exec (.rd 50#6) State.reset) (·.out.busRdata) = some 0#32 := by decide

/-- R79, R80: the payload window is big-endian. -/
theorem test_rd_argPayload : field (exec (.rd 6#6) (withArgs 0 0 (pay4 0x12 0x34 0x56 0x78))) (·.out.busRdata) =
    some 0x12345678#32 := by decide

/-- CM-15. -/
theorem test_wr_argPayload1 : field (exec (.wr 7#6 0x11223344#32) State.reset) (·.ctl.argPay) =
    some #v[0, 0, 0, 0, 0x11, 0x22, 0x33, 0x44, 0, 0, 0, 0] := by decide

/-- CM-11. -/
theorem test_wr_regSel : field (exec (.wr 28#6 0x123#32) State.reset) (regRead · 28#6) = some 0x23#32 := by decide

/-- DF-18: a request that arrives is dropped. -/
theorem test_telecommandRequest : field (exec (.telecommandRequest .dispatched)
      { State.reset with slot := { Slot.reset with full := true, dtype := 1#8 } })
    (fun u => (u.slot.full, u.cnt.drop, u.evq)) = some (false, 1#32, []) := by decide

/-- DP-1. -/
theorem test_telecommandResponse : field (exec (.telecommandResponse .dispatched)
      { State.reset with
        slot := { Slot.reset with full := true, dtype := 2#8, pay := pay4 0 0 0 3 }, reg := [live .tc 3 100] })
    (fun u => (regRead u 18#6, regRead u 27#6, u.cnt.late)) = some (0x302#32, 0#32, 0#32) := by decide

/-- DP-2: a TM entry is no match for a TC response. -/
theorem test_telecommandResponse_otherKind : field (exec (.telecommandResponse .dispatched)
      { State.reset with
        slot := { Slot.reset with full := true, dtype := 2#8, pay := pay4 0 0 0 3 }, reg := [live .tm 3 100] })
    (fun u => (regRead u 18#6, regRead u 27#6, u.cnt.late)) = some (0x202#32, 1#32, 1#32) := by decide

/-- R172: event 0x03 cancels a TM entry. -/
theorem test_telemetryData : field (exec (.telemetryData .dispatched)
      { State.reset with
        slot := { Slot.reset with full := true, dtype := 3#8, pay := pay4 0 0 0 1 }, reg := [live .tm 1 5] })
    (fun u => (regRead u 18#6, u.reg)) = some (0x103#32, []) := by decide

/-- R154: the length comes next. -/
theorem test_telemetryRequest : field (exec (.telemetryRequest .typed)
      (receiving { Deframer.reset with state := .readingHeader, hcnt := 3 }))
    (fun u => (regRead u 1#6, regRead u 10#6)) = some (2#32, 0x404#32) := by decide

/-- R175: event 0x07 cancels a TM entry. -/
theorem test_telemetryRequestRejection : field (exec (.telemetryRequestRejection .dispatched)
      { State.reset with
        slot := { Slot.reset with full := true, dtype := 7#8, pay := pay4 0 0 0 7 }, reg := [live .tm 7 5] })
    (fun u => (regRead u 18#6, u.reg)) = some (0x107#32, []) := by decide

/-- DF-6, its last byte. -/
theorem test_fileUpload : field (exec (.fileUpload .lengthRead)
      (receiving { Deframer.reset with state := .readingLength, hcnt := 4, dtype := 5#8, lcnt := 4 }))
    (fun u => (u.cnt.malLen, u.cnt.lenErr, regRead u 1#6)) = some (1#32, 1#32, 0#32) := by decide

/-- R106: a frame without a size is never emitted. -/
theorem test_fileDownload : field (exec (.fileDownload .completed)
      (receiving { Deframer.reset with state := .readingPayload, hcnt := 4, dtype := 6#8, lcnt := 4, len := 1, pcnt := 1 }))
    (fun u => (u.cnt.lenErr, u.cnt.rxFrame, u.slot.full)) = some (1#32, 0#32, false) := by decide

/-- DF-5. -/
theorem test_invalidDataType : field (exec (.invalidDataType 0#8 .typed)
      (receiving { Deframer.reset with state := .readingHeader, hcnt := 3 }))
    (fun u => (u.cnt.typeErr, regRead u 1#6, regRead u 10#6)) = some (1#32, 0#32, 4#32) := by decide

/-! ### One step of the machine -/

/-- A command word placed at reset is run by the very next step, and the frame it starts is not yet on the wire. -/
theorem test_step_send : field (step (State.reset.withFetchWord 32 0x401))
    (fun u => (u.ctl.cmdResult, u.tx.active, u.tx.idx)) = some (0x100#32, true, 0) := by decide

/-- A data-type byte placed at reset is taken by the very next step, the byte `SYNC` among them (DF-16). -/
theorem test_step_dataType :
    field (step (State.reset.withFetchWord 8 0x02)) (fun u => (u.df.state, u.df.dtype)) =
      some (DfState.readingLength, 2#8) ∧
    field (step (State.reset.withFetchWord 8 0x55)) (fun u => (u.df.state, u.df.dtype, u.cnt.typeErr)) =
      some (DfState.awaitingSync, 0x55#8, 1#32) := by decide

/-- CM-9: CLR_CNT in P3 does not clear what P5 counts. -/
theorem test_step_clrCnt_before_receive :
    field (step { receiving { Deframer.reset with state := .readingHeader, hcnt := 3 } with
      inputs := [{ access (.write 2#6 0x6#32) with rxValid := true, rxByte := 9#8 }]
      cnt := { Counters.zero with typeErr := 4 } }) (·.cnt.typeErr) = some 1#32 := by decide

/-- A command that EVT_POP frees room for: P8 pushes a waiting timeout in the cycle of the pop (RG-10). -/
theorem test_step_pop_makes_room :
    field (step { State.reset with
      cfg := { Config.defaults with evqDepth := 1 }, inputs := [access (.write 2#6 0x5#32)]
      evq := [event 0x81], reg := [dead .tm 7] }) (fun u => (u.evq.map (·.id), u.reg)) = some ([7#32], []) := by
  decide

/-! ### Witnesses: the hypotheses of every obligation are met, clause by clause -/

theorem test_witness_IllFormedWordIsRefused :
    (0x6 / 2 ^ 16 = 0 ∧ 0x6 / 16 % 16 = 0 ∧ 0x6 % 16 ≤ 6 ∧ 0x6 / 256 % 256 = 0) ∧
    ((0xFF02 / 2 ^ 16 = 0 ∧ 0xFF02 / 16 % 16 = 0 ∧ 0xFF02 % 16 ≤ 6) ∧ 0xFF02 % 16 = 2) ∧
    ¬(0x7 % 16 ≤ 6) ∧ ¬(0x10 / 16 % 16 = 0) ∧ ¬(0x10000 / 2 ^ 16 = 0) ∧
    ¬(0x106 / 256 % 256 = 0 ∨ 0x106 % 16 = 1 ∨ 0x106 % 16 = 2) := by decide

/-- A busy engine; a pending resend; a full registry; and room for one more. -/
theorem test_witness_SendEffect :
    0#8 ∉ encodableTypes ∧ 5#8 ∉ encodableTypes ∧ 8#8 ∉ encodableTypes ∧
    (7#8 ∈ encodableTypes ∧ ({ TxEngine.reset with active := true } : TxEngine).active = true) ∧
    (1#8 ∈ encodableTypes ∧ ({ Scheduler.reset with tickPend := true } : Scheduler).tickPend = true) ∧
    (let s := { State.reset with cfg := { Config.defaults with regDepth := 1 }, reg := [live .tm 1 1] }
     s.tx.active = false ∧ s.sch.tickPend = false ∧ s.cfg.regDepth ≤ s.reg.length) ∧
    (let s := { State.reset with cfg := { Config.defaults with regDepth := 2 }, reg := [live .tm 1 1] }
     4#8 ∈ encodableTypes ∧ s.tx.active = false ∧ s.sch.tickPend = false ∧ s.reg.length < s.cfg.regDepth) ∧
    (let s := { State.reset with cfg := { Config.defaults with regDepth := 1 }, reg := [live .tm 1 1] }
     3#8 ∈ encodableTypes ∧ s.tx.active = false ∧ s.sch.tickPend = false ∧
       (3#8 = 1#8 ∨ 3#8 = 4#8 → s.reg.length < s.cfg.regDepth)) := by decide

theorem test_witness_SnapshotKeepsSizeBytes : size 4#8 = some 4 ∧ size 3#8 = some 12 := by decide

/-- The rate at 0, one above the threshold, the threshold and 1. -/
theorem test_witness_SchedStartEffect :
    0#8 ∉ encodableTypes ∧ (withArgs 0 0 Pay.zero).ctl.argRate = 0 ∧
    (let s := withArgs 0 1000001 Pay.zero
     7#8 ∈ encodableTypes ∧ s.ctl.argRate ≠ 0 ∧ s.cfg.thresh < s.ctl.argRate.toNat) ∧
    (let s := withArgs 0 1000000 Pay.zero
     1#8 ∈ encodableTypes ∧ s.ctl.argRate ≠ 0 ∧ s.ctl.argRate.toNat ≤ s.cfg.thresh) ∧
    (let s := withArgs 0 1 Pay.zero
     1#8 ∈ encodableTypes ∧ s.ctl.argRate ≠ 0 ∧ s.ctl.argRate.toNat ≤ s.cfg.thresh) := by decide

/-- A state with a session running and an argument rate. -/
def session (argRate : Word) : State :=
  { withArgs 0 argRate Pay.zero with
    sch := { Scheduler.reset with active := true, dtype := 3#8, rate := 2000#32 } }

theorem test_witness_SchedAdjustEffect :
    (let s := session 1000000
     s.sch.active = true ∧ s.ctl.argRate ≠ 0 ∧ s.ctl.argRate.toNat ≤ s.cfg.thresh) ∧
    State.reset.sch.active = false ∧ ((session 0).sch.active = true ∧ (session 0).ctl.argRate = 0) ∧
    (let s := session 1000001
     s.sch.active = true ∧ s.ctl.argRate ≠ 0 ∧ s.cfg.thresh < s.ctl.argRate.toNat) := by decide

theorem test_witness_EvtPopRemovesHead :
    ({ State.reset with evq := [event 0x80] } : State).evq = event 0x80 :: [] ∧ State.reset.evq = [] := by decide

theorem test_witness_RefusedCommandChangesOnlyResult : ∃ u, exec (.wr 2#6 0x5#32) State.reset = .next u ∧
    u.ctl.cmdResult.extractLsb' 0 8 ≠ 0#8 := ⟨_, rfl, by decide⟩

theorem test_witness_ReadPutsRegisterOnBus : 44 ≤ (44#6).toNat ∧ 44 ≤ (63#6).toNat := by decide

theorem test_witness_WindowsShowHeadAndSelectedEntry :
    State.reset.evq = [] ∧ ({ State.reset with evq := [event 0x80] } : State).evq = event 0x80 :: [] ∧
    (State.reset.reg.length ≤ State.reset.ctl.regSel.toNat) ∧
    (let s := { State.reset with
                reg := [live .tm 1 1, dead .tc 2], ctl := { Control.reset with regSel := 1 } }
     s.reg[s.ctl.regSel.toNat]? = some (dead .tc 2)) := by decide

theorem test_witness_WritesReachOnlyWritableFields :
    ∀ w ∈ [1#6, 3#6, 9#6, 27#6, 29#6, 43#6, 44#6, 63#6],
      w ∉ [0#6, 2#6, 4#6, 5#6, 6#6, 7#6, 8#6, 28#6] := by decide

theorem test_witness_HeaderCheckByType : 0#8 ∉ recognisedTypes ∧ 8#8 ∉ recognisedTypes ∧ 255#8 ∉ recognisedTypes := by decide

/-- The right length, one too long, a type without a size, and length 0. -/
theorem test_witness_LengthCheckBySize :
    size 2#8 = some (5#32).toNat ∧ (size 2#8 ≠ some (6#32).toNat ∧ 6#32 ≠ 0) ∧
    (size 5#8 ≠ some (5#32).toNat ∧ 5#32 ≠ 0) ∧ Deframer.reset.len = 0 := by decide

theorem test_witness_CompletionEmitsOrCounts :
    size 1#8 = some (12#32).toNat ∧ size 1#8 ≠ some (13#32).toNat ∧ size 6#8 ≠ some (0#32).toNat := by decide

/-- A response for id 3 with an expired entry before the live one; a full queue; and no live entry. -/
theorem test_witness_ResponseCancelsFirstLiveEntry :
    (let s := { State.reset with cfg := { Config.defaults with evqDepth := 1 }, evq := [event 0x80] }
     s.cfg.evqDepth ≤ s.evq.length) ∧
    (let s := { State.reset with
                slot := { Slot.reset with full := true, pay := pay4 0 0 0 3 }
                reg := [dead .tc 3] ++ live .tc 3 5 :: [live .tc 3 6] }
     s.evq.length < s.cfg.evqDepth ∧ s.reg = [dead .tc 3] ++ live .tc 3 5 :: [live .tc 3 6] ∧
       (∀ x ∈ [dead .tc 3], ¬(x.expired = false ∧ x.kind = .tc ∧ x.id = payWord s.slot.pay 0)) ∧
       (live .tc 3 5).expired = false ∧ (live .tc 3 5).kind = .tc ∧ (live .tc 3 5).id = payWord s.slot.pay 0) ∧
    (let s := { State.reset with
                slot := { Slot.reset with full := true, pay := pay4 0 0 0 3 }, reg := [dead .tm 3, live .tc 3 1] }
     s.evq.length < s.cfg.evqDepth ∧
       ∀ x ∈ s.reg, ¬(x.expired = false ∧ x.kind = .tm ∧ x.id = payWord s.slot.pay 0)) := by decide

theorem test_witness_RequestInSlotIsDropped :
    (let t := { Slot.reset with full := true, dtype := 1#8 }
     t.full = true ∧ (t.dtype = 1#8 ∨ t.dtype = 4#8)) ∧
    (let t := { Slot.reset with full := true, dtype := 4#8 }
     t.full = true ∧ (t.dtype = 1#8 ∨ t.dtype = 4#8)) := by decide

theorem test_witness_IdleDeframerStep :
    State.reset.df.state = .awaitingSync ∧ State.reset.df.pend = false ∧
    (let d := { Deframer.reset with pend := true }
     d.state = .awaitingSync ∧ d.pend = true) ∧ 0xDE#8 ≠ 0x55#8 := by decide

theorem test_witness_DestuffingCases :
    (let d := { Deframer.reset with state := .readingHeader, hcnt := 1 }
     d.state ≠ .awaitingSync ∧ d.pend = false) ∧
    (let d := { Deframer.reset with state := .readingPayload, pend := true }
     d.state ≠ .awaitingSync ∧ d.pend = true) := by decide

/-- Each field's last byte but one, and the payload bytes 11 and 12. -/
theorem test_witness_LogicalByteStored :
    (let d := { Deframer.reset with state := .readingHeader, hcnt := 2 }
     d.hcnt < 3 ∧ d.state = .readingHeader) ∧
    (let d := { Deframer.reset with state := .readingLength, lcnt := 2 }
     d.state = .readingLength ∧ d.lcnt < 3) ∧
    (let d := { Deframer.reset with state := .readingPayload, pcnt := 11, len := 13 }
     d.pcnt.toNat < 12 ∧ d.state = .readingPayload ∧ d.pcnt + 1 ≠ d.len) ∧
    (let d := { Deframer.reset with state := .readingPayload, pcnt := 12, len := 14 }
     12 ≤ d.pcnt.toNat ∧ d.state = .readingPayload ∧ d.pcnt + 1 ≠ d.len) := by decide

/-- A frame with a payload byte `SYNC` at its end, a deframer in AwaitingSync and one in the middle of a frame. -/
theorem test_witness_DeframerRoundTrip :
    (wireFrame 4#8 (pay4 1 2 3 0x55)).isSome = true ∧ State.reset.df.pend = false ∧
    (receiving { Deframer.reset with state := .readingPayload }).df.pend = false := by decide

theorem test_witness_NoiseAndFramesGiveExactlyTheFrames :
    State.reset.df.state = .awaitingSync ∧ State.reset.df.pend = false ∧ (∀ b ∈ [0xAA#8, 0x00#8], b ≠ 0x55#8) ∧
    ∀ f ∈ [(4#8, pay4 0 0 0 0x55), (2#8, Pay.zero)], f.1 ∈ encodableTypes := by decide

theorem test_witness_NoiseSyncLosesFrame :
    (wireFrame 7#8 (pay4 0x55 0 0 0)).isSome = true ∧ State.reset.df.state = .awaitingSync ∧
    State.reset.df.pend = false := by decide

theorem test_witness_WireLength_EngineSendsExactlyTheFrame :
    size 3#8 = some 12 ∧ (wireFrame 3#8 (pay4 0x55 0x55 0x55 0x55)).isSome = true ∧ size 4#8 = some 4 ∧
    (wireFrame 4#8 Pay.zero).isSome = true := by decide

/-- A state in the middle of a frame, in a cycle with the given `tx_ready`. -/
def sending (idx : Nat) (ready : Bool) : State :=
  { State.reset with
    tx := { TxEngine.reset with active := true, dtype := 4#8, idx := idx }
    inputs := [{ CycleIn.idle with txReady := ready }] }

/-- The first byte held back; the last byte but one taken. -/
theorem test_witness_CycleSendsNextWireByte :
    (∃ u, step (sending 0 false) = .next u) ∧ (∃ u, step (sending 11 true) = .next u) ∧
    (nextInput (sending 0 false)).rst = false ∧ (sending 0 false).tx.active = true ∧
    size (sending 0 false).tx.dtype = some 4 ∧ (sending 0 false).tx.idx < 9 + 4 ∧
    (nextInput (sending 0 false)).txReady = false ∧ (nextInput (sending 11 true)).txReady = true ∧
    (sending 11 true).tx.idx < 9 + 4 ∧ (remainingBytes (sending 11 true).tx).tail ≠ [] :=
  ⟨⟨_, rfl⟩, ⟨_, rfl⟩, by decide, by decide, by decide, by decide, by decide, by decide, by decide, by decide⟩

theorem test_witness_EntryExpiresOnItsLastTick :
    ((live .tm 1 1).expired = false ∧ (live .tm 1 1).cnt ≠ 0 ∧ 0 < (live .tm 1 1).cnt.toNat) ∧
    (live .tm 1 1).cnt.toNat ≤ 1 := by decide

theorem test_witness_TimeoutPushTakesFirstExpired :
    (let s := { State.reset with reg := [live .tm 1 1] ++ dead .tc 2 :: [dead .tm 3] }
     s.evq.length < s.cfg.evqDepth ∧ s.reg = [live .tm 1 1] ++ dead .tc 2 :: [dead .tm 3] ∧
       (∀ x ∈ [live .tm 1 1], x.expired = false) ∧ (dead .tc 2).expired = true) ∧
    (∀ x ∈ [live .tm 1 1], x.expired = false) ∧
    (let s := { State.reset with cfg := { Config.defaults with evqDepth := 1 }, evq := [event 0x80] }
     s.cfg.evqDepth ≤ s.evq.length) := by decide

/-- Right after reset, with an entry in the registry and one command word coming. -/
def commanding (d : Word) : State :=
  { State.reset with inputs := [access (.write 2#6 d)], reg := [live .tm 1 5] }

theorem test_witness_ZeroTimeoutRequestTimesOutAtOnce :
    ∀ x ∈ [(1#8, Kind.tc, 0x00000101#32), (4#8, Kind.tm, 0x00000401#32)],
      x ∈ [(1#8, Kind.tc, 0x00000101#32), (4#8, Kind.tm, 0x00000401#32)] ∧
      (commanding x.2.2).inputs = { CycleIn.idle with busOp := .write 2#6 x.2.2 } :: [] ∧
      (commanding x.2.2).tx.active = false ∧ (commanding x.2.2).sch.tickPend = false ∧
      (commanding x.2.2).slot.full = false ∧ (commanding x.2.2).flt.pend = false ∧
      (commanding x.2.2).ctl.argTimeout = 0 ∧ (∀ e ∈ (commanding x.2.2).reg, e.expired = false) ∧
      (commanding x.2.2).reg.length < (commanding x.2.2).cfg.regDepth ∧
      (commanding x.2.2).evq.length < (commanding x.2.2).cfg.evqDepth := by decide

theorem test_witness_HeldResponseLosesToTimeout :
    let e := live .tc 3 1
    let s := { State.reset with
               cfg := { Config.defaults with evqDepth := 1 }
               inputs := [{ CycleIn.idle with tick := true, busOp := .write 2#6 0x00000005#32 }]
               slot := { Slot.reset with full := true, dtype := 2#8, pay := pay4 0 0 0 3 }
               evq := [event 0x80], reg := [e] }
    s.inputs = { CycleIn.idle with tick := true, busOp := .write 2#6 0x00000005#32 } :: [] ∧
    s.tx.active = false ∧ s.sch.tickPend = false ∧ s.sch.active = false ∧ s.flt.pend = false ∧
    s.slot.full = true ∧ s.slot.dtype = 2#8 ∧ s.evq = event 0x80 :: [] ∧ s.evq.length = s.cfg.evqDepth ∧
    s.reg = [e] ∧ e.expired = false ∧ e.cnt = 1 ∧ e.kind = .tc ∧ e.id = payWord s.slot.pay 0 := by decide

/-- A response that cancels an entry and an expired entry, in one cycle. -/
def resolving : State :=
  { State.reset with
    slot := { Slot.reset with full := true, dtype := 2#8, pay := pay4 0 0 0 3 }, evq := [event 0x80]
    reg := [dead .tm 1, live .tc 3 5], inputs := [{ access (.write 2#6 0x00000005#32) with tick := true }] }

theorem test_witness_EachRemovedEntryHasOneEvent :
    (∃ u, andThen (dispatchSlot resolving) (fun t => .next (pushPhase (faultPhase CycleIn.idle t))) = .next u) ∧
    (nextInput resolving).rst = false ∧ ∃ u, step resolving = .next u := ⟨⟨_, rfl⟩, rfl, ⟨_, rfl⟩⟩

/-- In that cycle the head is popped, the response answers its entry and the expired entry times out. -/
theorem test_step_resolves_both : field (step resolving) (fun u => (u.reg, u.evq.map (fun e => (e.code, e.matched)))) =
    some ([], [(0x02#8, true), (0x80#8, false)]) := by decide

/-- No session; one below the threshold; the threshold; and the threshold with a resend pending. -/
theorem test_witness_SchedTickStepsAccumulator :
    State.reset.sch.active = false ∧ State.reset.cfg.thresh ≤ 2 ^ 31 ∧
    (let t := { Scheduler.reset with active := true, rate := 1#32, acc := 999998#32 }
     t.active = true ∧ t.acc.toNat + t.rate.toNat < State.reset.cfg.thresh) ∧
    (let t := { Scheduler.reset with active := true, rate := 1#32, acc := 999999#32, tickPend := true }
     t.active = true ∧ State.reset.cfg.thresh ≤ t.acc.toNat + t.rate.toNat ∧
       t.acc.toNat + t.rate.toNat < 2 ^ 32) := by decide

/-- A state with a resend pending. -/
def resending (t : Byte) (busy : Bool) (depth : Nat) : State :=
  { State.reset with
    cfg := { Config.defaults with regDepth := depth }, reg := [live .tm 1 1]
    tx := { TxEngine.reset with active := busy }
    sch := { Scheduler.reset with active := true, dtype := t, rate := 1, tickPend := true } }

theorem test_witness_ResendServiced :
    State.reset.sch.tickPend = false ∧ (resending 1#8 true 1).tx.active = true ∧
    (let s := resending 4#8 false 1
     s.sch.tickPend = true ∧ s.tx.active = false ∧ (s.sch.dtype = 1#8 ∨ s.sch.dtype = 4#8) ∧
       s.cfg.regDepth ≤ s.reg.length) ∧
    (let s := resending 1#8 false 2
     s.sch.tickPend = true ∧ s.tx.active = false ∧ s.sch.dtype ∈ encodableTypes ∧ s.reg.length < s.cfg.regDepth) ∧
    (let s := resending 2#8 false 1
     s.sch.tickPend = true ∧ s.tx.active = false ∧ s.sch.dtype ∈ encodableTypes ∧
       (s.sch.dtype = 1#8 ∨ s.sch.dtype = 4#8 → s.reg.length < s.cfg.regDepth)) := by decide

theorem test_witness_CadenceIsFloorOfElapsedPeriods :
    let s := session 0
    s.cfg.legal = true ∧ s.sch.active = true ∧ s.sch.rate.toNat ≤ s.cfg.thresh ∧ s.sch.acc = 0 ∧
    s.sch.tickPend = false := by decide

/-- Two cycles, one of them with a tick and a read. -/
theorem test_witness_SessionPhaseNeverDrifts :
    let s := { session 0 with inputs := [{ access (.read 25#6) with tick := true }, CycleIn.idle] }
    s.cfg.legal = true ∧ s.sch.active = true ∧ s.sch.rate.toNat ≤ s.cfg.thresh ∧ s.sch.acc.toNat < s.cfg.thresh ∧
    (∀ i ∈ s.inputs, i.quiet = true) ∧ ∃ u, Sys2Proof.core.run s.inputs.length s = .next u :=
  ⟨by decide, by decide, by decide, by decide, by decide, ⟨_, rfl⟩⟩

theorem test_witness_TransportErrorBecomesEvent :
    let s := { sending 9 false with
               inputs := [{ CycleIn.idle with txErrValid := true, txErrCode := true, txReady := false }] }
    s.inputs = { CycleIn.idle with txErrValid := true, txErrCode := true, txReady := false } :: [] ∧
    (txByte s.tx).isSome = true ∧ s.sch.tickPend = false ∧ s.slot.full = false ∧ s.flt.pend = false ∧
    (∀ x ∈ s.reg, x.expired = false) ∧ s.evq.length < s.cfg.evqDepth := by decide

theorem test_witness_WaitingFaultKeepsItsCode :
    ({ State.reset with flt := { pend := true, code := false } } : State).flt.pend = true ∧
    State.reset.flt.pend = false ∧ State.reset.evq.length < State.reset.cfg.evqDepth ∧
    (let s := { State.reset with cfg := { Config.defaults with evqDepth := 1 }, evq := [event 0x80] }
     s.cfg.evqDepth ≤ s.evq.length) := by decide

/-- A reset cycle and a cycle with a Read, both from a state that is sending. -/
theorem test_witness_OutputsComeFromStartState :
    (∃ u, step { sending 3 true with inputs := [{ CycleIn.idle with rst := true }] } = .next u) ∧
    (∃ u, step { sending 3 true with inputs := [access (.read 9#6)] } = .next u) ∧
    ∃ u, step (sending 3 true) = .next u := ⟨⟨_, rfl⟩, ⟨_, rfl⟩, ⟨_, rfl⟩⟩

theorem test_witness_ResetWins :
    (nextInput { sending 3 true with inputs := [{ access (.write 0#6 1#32) with rst := true }] }).rst = true := by decide

/-- A cycle with a Write and one with a Read. -/
theorem test_witness_StepRunsDecodedAccess :
    (let s := { State.reset with inputs := [access (.write 2#6 0x00000401#32)] }
     (nextInput s).rst = false ∧ (∃ o, portOutputs s = some o) ∧
       decode (.bus (nextInput s).busOp) = .ok (.send 4#8) ∧
       (nextInput s).busOp = .write 2#6 0x00000401#32 ∧
       ∃ u, exec (.send 4#8) (sendPhase (nextInput s) s.tx.active
         (tickPhase (nextInput s) { takeInput s with out := CycleOut.zero })) = .next u) ∧
    (let s := { State.reset with inputs := [access (.read 1#6)] }
     decode (.bus (nextInput s).busOp) = .ok (.rd 1#6) ∧ (nextInput s).busOp = .read 1#6 ∧
       ∃ u, exec (.rd 1#6) { takeInput s with out := CycleOut.zero } = .next u) :=
  ⟨⟨rfl, ⟨_, rfl⟩, rfl, rfl, ⟨_, rfl⟩⟩, rfl, rfl, ⟨_, rfl⟩⟩

theorem test_witness_ReceivePathRunsDecodedRow :
    (decode (.dataType 9#8 .typed) = .ok (.invalidDataType 9#8 .typed) ∧
      (let d := { Deframer.reset with state := .readingHeader, hcnt := 3 }
       d.state = .readingHeader ∧ 3 ≤ d.hcnt)) ∧
    (decode (.dataType 2#8 .lengthRead) = .ok (.telecommandResponse .lengthRead) ∧
      (let d := { Deframer.reset with state := .readingLength, dtype := 2#8, lcnt := 3 }
       d.state = .readingLength ∧ d.lcnt = 3 ∧ d.dtype = 2#8)) ∧
    (decode (.dataType 1#8 .completed) = .ok (.telecommandRequest .completed) ∧
      (let d := { Deframer.reset with state := .readingPayload, dtype := 1#8, pcnt := 11, len := 12 }
       d.pcnt.toNat < 12 ∧ d.state = .readingPayload ∧ d.pcnt + 1 = d.len ∧ d.dtype = 1#8)) ∧
    (decode (.dataType 3#8 .completed) = .ok (.telemetryData .completed) ∧
      (let d := { Deframer.reset with state := .readingPayload, dtype := 3#8, pcnt := 12, len := 13 }
       12 ≤ d.pcnt.toNat ∧ d.state = .readingPayload ∧ d.pcnt + 1 = d.len ∧ d.dtype = 3#8)) ∧
    (decode (.dataType 7#8 .dispatched) = .ok (.telemetryRequestRejection .dispatched) ∧
      ({ Slot.reset with full := true, dtype := 7#8 } : Slot).full = true) :=
  ⟨⟨rfl, by decide⟩, ⟨rfl, by decide⟩, ⟨rfl, by decide⟩, ⟨rfl, by decide⟩, rfl, rfl⟩

theorem test_witness_StepRunsOfferedDataType :
    let s := { receiving { Deframer.reset with state := .readingHeader, hcnt := 3 } with
               inputs := [{ CycleIn.idle with rxValid := true, rxByte := 3#8 }] }
    (nextInput s).rst = false ∧ (∃ o, portOutputs s = some o) ∧ (nextInput s).busOp = .idle ∧
    (nextInput s).rxValid = true ∧ s.slot.full = false ∧ s.df.state = .readingHeader ∧ s.df.hcnt = 3 ∧
    s.df.pend = false ∧ (nextInput s).rxByte ≠ 0x55#8 ∧
    decode (.dataType (nextInput s).rxByte .typed) = .ok (.telemetryData .typed) :=
  ⟨rfl, ⟨_, rfl⟩, rfl, rfl, rfl, rfl, rfl, rfl, by decide, rfl⟩

/-- Everything waits: the queue is full, a response is held, a fault and an expired entry wait, a resend waits for
the wire, the engine is at its last byte and the deframer before its last byte; every capacity is 1. -/
def waiting : State :=
  { State.reset with
    cfg := { regDepth := 1, evqDepth := 1, tickHz := 1 }
    df := { state := .readingPayload, pend := true, hcnt := 4, res := Res.zero, dtype := 2#8, lcnt := 4, len := 5#32
            pcnt := 4#32, pay := pay4 1 2 3 4 }
    slot := { full := true, dtype := 2#8, res := Res.zero, pay := pay4 0 0 0 3 }
    tx := { active := true, dtype := 4#8, pay := pay4 0 0 0 0x55, idx := 12, esc := true, escCnt := 1 }
    reg := [dead .tm 1], evq := [event 0x80]
    sch := { active := true, dtype := 4#8, pay := pay4 0 0 0 2, timeout := 5#32, rate := 1000#32, acc := 999#32
             tickPend := true }
    flt := { pend := true, code := true }
    inputs := [CycleIn.still] }

theorem test_witness_BlockInv : BlockInv waiting where
  cfg := by decide
  df := ⟨by decide, by decide, by decide, by decide, by decide, by decide⟩
  tx := ⟨by decide, by decide, fun _ => ⟨4, by decide, by decide⟩⟩
  reg := ⟨by decide, by decide⟩
  evq := ⟨by decide, by decide⟩
  sch := ⟨by decide, fun _ => ⟨by decide, by decide, by decide⟩, by decide⟩
  result := by decide
  resendWaits := by decide
  slotWaits := by decide
  faultWaits := by decide

/-- The same with no session running: SCHED_STOP there changes the result alone. -/
theorem test_witness_SchedStopEndsSession :
    BlockInv { waiting with sch := { Scheduler.reset with dtype := 4#8, rate := 1000#32 } } ∧
    ({ Scheduler.reset with dtype := 4#8, rate := 1000#32 } : Scheduler).active = false :=
  ⟨{ test_witness_BlockInv with sch := ⟨by decide, by decide, by decide⟩, resendWaits := by decide }, rfl⟩

theorem test_witness_PaddingInv : PaddingInv waiting where
  df := by show zeroFrom 4 (pay4 1 2 3 4); unfold zeroFrom; decide
  slot := by unfold zeroFrom; decide
  last := by unfold zeroFrom; decide
  tx := by unfold zeroFrom; decide
  sch := by unfold zeroFrom; decide
  evq := by
    intro e he hc
    have : e = event 0x80 := by simpa [waiting] using he
    subst this
    exact absurd hc (by decide)

/-- `StepKeepsInvariant`, `StepNeverStops`, `StepKeepsUnusedBytesZero` and `EventQueueIsFirstInFirstOut`: from that
state a cycle answers a next state; so does the EVT_POP that frees everything. -/
theorem test_witness_invariant_step :
    (∃ u, step waiting = .next u) ∧
    ∃ u, step { waiting with inputs := [access (.write 2#6 0x00000005#32)] } = .next u := ⟨⟨_, rfl⟩, ⟨_, rfl⟩⟩

theorem test_witness_StillBlockOnlyPushesTimeouts : nextInput waiting = CycleIn.still := by decide

theorem test_witness_ReadsDisturbNothing :
    (access .idle).rst = false ∧ (access .idle).busOp = .idle ∧
    ∃ u, step { waiting with inputs := access .idle :: [] } = .next u := ⟨rfl, rfl, ⟨_, rfl⟩⟩

theorem test_witness_ArgumentsAreReadOnlyByCommands :
    (nextInput waiting).rst = false ∧ (nextInput waiting).busOp = .idle ∧ ∃ u, step waiting = .next u :=
  ⟨rfl, rfl, ⟨_, rfl⟩⟩

end Sys2Proof.Tests
end

section
/-! SUPPORT. What every operation keeps of the block's invariant, unit by unit: each lemma speaks of the one unit's
part of `BlockInv` and of the one operation that writes that unit. -/

namespace Sys2Proof.Machine

/-! ### The parameters and the data types -/

/-- The threshold lies in the ranges R9 gives. -/
theorem thresh_bounds {c : Config} (h : c.legal = true) : 1000 ≤ c.thresh ∧ c.thresh ≤ 2147483000 := by
  obtain ⟨-, -, -, -, hlo, hhi⟩ := of_decide_eq_true h
  unfold Config.thresh
  omega

/-- A data type has a size exactly when it is one of the five (R94, R95). -/
theorem encodable_iff (t : Byte) : encodable t = true ↔ t ∈ encodableTypes := by
  revert t; decide

/-- No payload is longer than the buffer (R94). -/
theorem size_le {t : Byte} {n : Nat} (h : size t = some n) : n ≤ 12 := by
  unfold size at h
  split at h <;> simp at h <;> omega

/-- A raw frame is its nine header bytes and its payload (40_encoder.md R121). -/
theorem rawFrame_length {t : Byte} {p : Pay} {raw : List Byte} (h : rawFrame t p = some raw) :
    ∃ n, size t = some n ∧ raw.length = 9 + n := by
  obtain ⟨n, hn, rfl⟩ := Option.map_eq_some_iff.mp h
  have := size_le hn
  refine ⟨n, hn, ?_⟩
  simp [RESV, be32Bytes]
  omega

/-- A type with a size has a raw frame. -/
theorem rawFrame_eq_none {t : Byte} {p : Pay} (h : rawFrame t p = none) : size t = none :=
  Option.map_eq_none_iff.mp h

/-! ### The transmit engine -/

/-- A frame of a type with a size starts in range (R126). -/
theorem txInv_txStart {t : Byte} (h : t ∈ encodableTypes) (p : Pay) (s : State) : txInv (txStart t p s).tx := by
  obtain ⟨n, hn⟩ := Option.isSome_iff_exists.mp ((encodable_iff t).mpr h)
  exact ⟨Nat.zero_le _, fun _ => rfl, fun _ => ⟨n, hn, by simp only [txStart_tx]; omega⟩⟩

/-- What one send does to the engine's index and flags (40_encoder.md R128). -/
theorem txNext_cases (raw : List Byte) (tx : TxEngine) :
    (txNext raw tx).dtype = tx.dtype ∧ (txNext raw tx).active = tx.active ∧ (txNext raw tx).pay = tx.pay ∧
    ((txNext raw tx).esc = false ∧ (txNext raw tx).idx = tx.idx + 1 ∨
      (txNext raw tx).esc = true ∧ (txNext raw tx).idx = tx.idx) := by
  unfold txNext
  split_ifs with hesc
  · exact ⟨rfl, rfl, rfl, .inl ⟨rfl, rfl⟩⟩
  · exact ⟨rfl, rfl, rfl, .inr ⟨rfl, rfl⟩⟩
  · exact ⟨rfl, rfl, rfl, .inl ⟨Bool.eq_false_of_not_eq_true hesc, rfl⟩⟩

/-- Sending a byte keeps the engine inside its frame, and the last byte leaves no escape pending. -/
theorem txInv_txAdvance {s : State} (h : txInv s.tx) (ha : s.tx.active = true) : txInv (txAdvance s).tx := by
  obtain ⟨-, -, hframe⟩ := h
  obtain ⟨n, hn, hidx⟩ := hframe ha
  have hle := size_le hn
  rcases txAdvance_cases s with ⟨hnone, -⟩ | ⟨raw, hraw, hstep⟩
  · simp [rawFrame_eq_none hnone] at hn
  obtain ⟨m, hm, hlen⟩ := rawFrame_length hraw
  obtain rfl : n = m := Option.some.inj (hn.symm.trans hm)
  obtain ⟨htype, hact, -, hmove⟩ := txNext_cases raw s.tx
  rcases hstep with ⟨hend, heq⟩ | ⟨hend, heq⟩ <;> rw [heq]
  · have hesc : (txNext raw s.tx).esc = false := by
      rcases hmove with ⟨he, -⟩ | ⟨-, hi⟩
      · exact he
      · omega
    exact ⟨by show (txNext raw s.tx).idx ≤ 21; omega, fun _ => hesc, fun h => nomatch h⟩
  · have hlt : (txNext raw s.tx).idx < 9 + n := by
      rcases hmove with ⟨-, hi⟩ | ⟨-, hi⟩ <;> omega
    have hmax : (txNext raw s.tx).idx ≤ 21 := by omega
    refine ⟨hmax, fun hi => ?_, fun _ => ⟨n, by rw [← hn, ← htype], hlt⟩⟩
    simp [hact, ha] at hi

/-! ### The registry -/

/-- One tick keeps an entry's expired flag the same as having no ticks left (R196). -/
theorem countEntry_expired {e : Entry} (h : e.expired = decide (e.cnt = 0)) :
    (countEntry e).expired = decide ((countEntry e).cnt = 0) := by
  unfold countEntry
  split
  · exact h
  · rfl

theorem regInv_map_countEntry {c : Config} {reg : List Entry} (h : regInv c reg) :
    regInv c (reg.map countEntry) := by
  obtain ⟨hlen, hall⟩ := h
  refine ⟨by simpa using hlen, ?_⟩
  simp only [List.mem_map, forall_exists_index, and_imp, forall_apply_eq_imp_iff₂]
  exact fun e he => countEntry_expired (hall e he)

/-- Removing entries keeps the registry's invariant. -/
theorem regInv_sublist {c : Config} {reg reg' : List Entry} (h : regInv c reg) (hs : reg'.Sublist reg) :
    regInv c reg' :=
  ⟨hs.length_le.trans h.1, fun e he => h.2 e (hs.subset he)⟩

/-- A sent frame keeps the registry's invariant when the entry it may add has room (R193, R194). -/
theorem regInv_registerRequest {s : State} {t : Byte} (p : Pay) (d : Word) (h : regInv s.cfg s.reg)
    (hroom : (requestKind t).isSome = false ∨ regIsFull s = false) :
    regInv s.cfg (registerRequest t p d s).reg := by
  rcases registerRequest_cases s t p d with ⟨-, heq⟩ | ⟨k, hk, heq⟩ <;> rw [heq]
  · exact h
  obtain ⟨-, hall⟩ := h
  have hlt : s.reg.length < s.cfg.regDepth := by simpa [hk, regIsFull] using hroom
  refine ⟨by simp; omega, fun e he => ?_⟩
  rcases List.mem_append.mp he with he | he
  · exact hall e he
  · rw [List.mem_singleton.mp he]

/-! ### The event queue -/

/-- A push into a queue with room keeps the queue's invariant, if the code is one R104 lists. -/
theorem evqInv_append {s : State} {e : Event} (h : evqInv s.cfg s.evq) (hroom : evqHasRoom s = true)
    (he : e.code ∈ eventCodes) : evqInv s.cfg (s.evq ++ [e]) := by
  obtain ⟨-, hall⟩ := h
  have hlt : s.evq.length < s.cfg.evqDepth := of_decide_eq_true hroom
  refine ⟨by simp; omega, fun x hx => ?_⟩
  rcases List.mem_append.mp hx with hx | hx
  · exact hall x hx
  · rwa [List.mem_singleton.mp hx]

/-- Without room, a queue that keeps its capacity is exactly full. -/
theorem evq_full_of_no_room {s : State} (h : evqInv s.cfg s.evq) (hroom : evqHasRoom s = false) :
    s.evq.length = s.cfg.evqDepth :=
  Nat.le_antisymm h.1 (Nat.le_of_not_lt (of_decide_eq_false hroom))

theorem evqInv_tail {c : Config} {evq : List Event} (h : evqInv c evq) : evqInv c evq.tail :=
  ⟨(by simp only [List.length_tail]; omega : evq.tail.length ≤ evq.length).trans h.1,
    fun e he => h.2 e (List.mem_of_mem_tail he)⟩

/-! ### The scheduler -/

/-- A tick keeps the phase below the threshold: the sum of phase and rate does not wrap and is below twice the
threshold (R213, R214). -/
theorem schInv_schedTick {s : State} (hc : s.cfg.legal = true) (h : schInv s.cfg s.sch) :
    schInv s.cfg (schedTick s).sch := by
  have hb := thresh_bounds hc
  obtain ⟨hacc, hact, hidle⟩ := h
  rcases schedTick_cases s with ⟨-, heq⟩ | ⟨ha, hstep⟩
  · rw [heq]; exact ⟨hacc, hact, hidle⟩
  obtain ⟨-, -, hrate⟩ := hact ha
  have hsum : (s.sch.acc + s.sch.rate).toNat = s.sch.acc.toNat + s.sch.rate.toNat := by
    rw [BitVec.toNat_add]; omega
  rcases hstep with ⟨hlt, heq⟩ | ⟨hge, heq⟩ <;> rw [heq]
  · exact ⟨hlt, hact, fun hi => by simp [ha] at hi⟩
  · refine ⟨?_, hact, fun hi => by simp [ha] at hi⟩
    show (s.sch.acc + s.sch.rate - BitVec.ofNat 32 s.cfg.thresh).toNat < s.cfg.thresh
    rw [BitVec.toNat_sub, hsum, BitVec.toNat_ofNat]
    omega

/-- Without a refusal ARG_RATE is in the range of a session's rate (R222). -/
theorem rate_of_rateRefusal_none {s : State} (h : rateRefusal s = none) :
    1 ≤ s.ctl.argRate.toNat ∧ s.ctl.argRate.toNat ≤ s.cfg.thresh := by
  unfold rateRefusal at h
  split_ifs at h with h0 hr
  refine ⟨Nat.pos_of_ne_zero fun hz => h0 (BitVec.eq_of_toNat_eq ?_), Nat.le_of_not_lt hr⟩
  simpa using hz

/-! ### The deframer -/

/-- The data-type byte ends the header with nothing of the length or the payload taken (R154). -/
theorem dfInv_typed {s : State} (v : Byte) (hl : s.df.lcnt = 0) (hp : s.df.pcnt = 0) :
    dfInv (stageState v .typed s).df := by
  simp only [stageState]
  split
  case isTrue hv => exact ⟨by simp, by simp [hl], by simp [hl, hp, hv]⟩
  case isFalse => exact ⟨by simp, by simp [hl], trivial⟩

theorem complete_df (sz : Option Nat) (s : State) :
    (complete sz s).df = { s.df with state := .awaitingSync, pend := false } := by
  rw [complete_eq]

theorem dfInv_complete {s : State} (sz : Option Nat) (hh : s.df.hcnt ≤ 4) (hl : s.df.lcnt ≤ 4) :
    dfInv (complete sz s).df := by
  rw [complete_df]
  exact ⟨hh, hl, trivial⟩

theorem dfInv_checkLength {s : State} (sz : Option Nat) (hh : s.df.hcnt = 4) (hl : s.df.lcnt = 4)
    (hp : s.df.pcnt = 0) (ht : s.df.dtype ∈ recognisedTypes) : dfInv (checkLength sz s).df := by
  rcases checkLength_cases s sz with ⟨-, heq⟩ | ⟨hlen, heq⟩ <;> rw [heq]
  · exact dfInv_complete sz hh.le hl.le
  · refine ⟨hh.le, hl.le, hh, hl, ?_, ht⟩
    show s.df.pcnt < s.df.len
    rw [hp]
    bv_omega

/-- A payload byte that is not the last leaves the count below the length. -/
theorem pcnt_succ_lt {a b : Word} (h : a < b) (hne : a + 1 ≠ b) : a + 1 < b := by
  bv_omega

theorem dfInv_acceptState {s : State} (v : Byte) (h : dfInv s.df) : dfInv (acceptState v s).df := by
  obtain ⟨hh, hl, hst⟩ := id h
  unfold acceptState
  cases hs : s.df.state <;> simp only [hs] at hst ⊢
  case awaitingSync => exact h
  case readingHeader =>
    obtain ⟨h1, h3, hl0, hp0⟩ := hst
    split
    · exact ⟨by simp only [storeReserved]; omega, by simp only [storeReserved]; omega,
        by simp only [storeReserved, hs]; exact ⟨by omega, by omega, hl0, hp0⟩⟩
    · exact dfInv_typed v hl0 hp0
  case readingLength =>
    obtain ⟨h4, hl3, hp0, ht⟩ := hst
    split
    · rename_i hlast
      exact dfInv_checkLength _ h4 hlast hp0 ht
    · exact ⟨hh, by simp only [shiftLength]; omega,
        by simp only [shiftLength, hs]; exact ⟨h4, by omega, hp0, ht⟩⟩
  case readingPayload =>
    obtain ⟨h4, hl4, hlt, ht⟩ := hst
    split
    · exact dfInv_complete _ h4.le hl4.le
    · rename_i hne
      exact ⟨hh, hl, by simp only [storePayload, hs]; exact ⟨h4, hl4, pcnt_succ_lt hlt hne, ht⟩⟩

theorem dfInv_startFrame (b : Byte) (s : State) : dfInv (startFrame b s).df := by
  simp [dfInv, startFrame]

theorem dfInv_setPend {s : State} (b : Bool) (h : dfInv s.df) : dfInv (setPend b s).df := h

/-- Every received byte leaves the deframer's counters where its state says (R146). -/
theorem dfInv_dfState {s : State} (b : Byte) (h : dfInv s.df) : dfInv (dfState b s).df := by
  unfold dfState
  split_ifs
  · exact dfInv_setPend _ h
  · exact dfInv_startFrame b s
  · exact h
  · exact dfInv_acceptState SYNC (dfInv_setPend false h)
  · exact dfInv_setPend true h
  · exact dfInv_startFrame b _
  · exact dfInv_acceptState b h

end Sys2Proof.Machine
end

section
/-! SUPPORT. The block's invariant through the phases of a cycle. -/

namespace Sys2Proof.Machine

/-! ### What a command does -/

/-- What a command does before it reports: nothing (NOP, or a refusal), or the effect of an accepted one with the
checks it has passed (45_commands.md R235 to R242). -/
inductive CommandEffect (s : State) : State → Prop
  | none : CommandEffect s s
  | send (t : Byte) (ht : t ∈ encodableTypes) (hwire : s.tx.active = false) (hpend : s.sch.tickPend = false)
      (hroom : (requestKind t).isSome = false ∨ regIsFull s = false) :
      CommandEffect s (txStart t s.ctl.argPay (registerRequest t s.ctl.argPay s.ctl.argTimeout s))
  | schedStart (t : Byte) (ht : t ∈ encodableTypes) (hrate : rateRefusal s = .none) :
      CommandEffect s (startSession t s)
  | schedAdjust (hact : s.sch.active = true) (hrate : rateRefusal s = .none) :
      CommandEffect s { s with sch := { s.sch with rate := s.ctl.argRate } }
  | schedStop : CommandEffect s { s with sch := { s.sch with active := false, acc := 0, tickPend := false } }
  | evtPop : CommandEffect s (evqPop s)
  | clrCnt : CommandEffect s { s with cnt := .zero }

/-- A command leads from `s` to `t`: one of the effects, and its report. -/
def Commanded (s t : State) : Prop := ∃ op c u, CommandEffect s u ∧ t = result op c u

theorem execSend_commanded (t : Byte) (s : State) : ∃ u, execSend t s = .next u ∧ Commanded s u := by
  refine ⟨_, rfl, ?_⟩
  split_ifs with htype hbusy hfull
  · exact ⟨_, _, _, .none, rfl⟩
  · exact ⟨_, _, _, .none, rfl⟩
  · exact ⟨_, _, _, .none, rfl⟩
  · simp only [Bool.not_eq_true', Bool.not_eq_false, encodable_iff] at htype
    simp only [Bool.or_eq_true, not_or, Bool.not_eq_true] at hbusy
    simp only [Bool.and_eq_true, not_and_or, Bool.not_eq_true] at hfull
    obtain ⟨hwire, hpend⟩ := hbusy
    exact ⟨_, _, _, .send t htype hwire hpend hfull, rfl⟩

theorem execSchedStart_commanded (t : Byte) (s : State) : ∃ u, execSchedStart t s = .next u ∧ Commanded s u := by
  refine ⟨_, rfl, ?_⟩
  split_ifs with htype
  · exact ⟨_, _, _, .none, rfl⟩
  · simp only [Bool.not_eq_true', Bool.not_eq_false, encodable_iff] at htype
    split
    case h_1 => exact ⟨_, _, _, .none, rfl⟩
    case h_2 hrate => exact ⟨_, _, _, .schedStart t htype hrate, rfl⟩

theorem execSchedAdjust_commanded (s : State) : ∃ u, execSchedAdjust s = .next u ∧ Commanded s u := by
  refine ⟨_, rfl, ?_⟩
  split_ifs with hact
  · exact ⟨_, _, _, .none, rfl⟩
  · simp only [Bool.not_eq_true', Bool.not_eq_false] at hact
    split
    case h_1 => exact ⟨_, _, _, .none, rfl⟩
    case h_2 hrate => exact ⟨_, _, _, .schedAdjust hact hrate, rfl⟩

theorem execEvtPop_commanded (s : State) : ∃ u, execEvtPop s = .next u ∧ Commanded s u := by
  refine ⟨_, rfl, ?_⟩
  split_ifs
  · exact ⟨_, _, _, .none, rfl⟩
  · exact ⟨_, _, _, .evtPop, rfl⟩

theorem exec_noType_commanded (d : Word) {i : Instr} {s : State} (h : ∃ u, exec i s = .next u ∧ Commanded s u) :
    ∃ u, exec (noType d i) s = .next u ∧ Commanded s u := by
  unfold noType
  split
  · exact h
  · exact ⟨_, rfl, _, _, _, .none, rfl⟩

/-- Every command word answers one of the effects and a report. -/
theorem exec_command_commanded (d : Word) (s : State) :
    ∃ u, exec (decodeCommand d) s = .next u ∧ Commanded s u := by
  unfold decodeCommand
  split
  · split
    · exact exec_noType_commanded d ⟨_, rfl, _, _, _, .none, rfl⟩
    · exact execSend_commanded _ s
    · exact execSchedStart_commanded _ s
    · exact exec_noType_commanded d (execSchedAdjust_commanded s)
    · exact exec_noType_commanded d ⟨_, rfl, _, _, _, .schedStop, rfl⟩
    · exact exec_noType_commanded d (execEvtPop_commanded s)
    · exact exec_noType_commanded d ⟨_, rfl, _, _, _, .clrCnt, rfl⟩
    · exact ⟨_, rfl, _, _, _, .none, rfl⟩
  · exact ⟨_, rfl, _, _, _, .none, rfl⟩

/-- A store keeps the result of the last command. -/
theorem regStore_cmdResult (w : WordIdx) (d : Word) (s : State) :
    (regStore w d s).ctl.cmdResult = s.ctl.cmdResult := by
  unfold regStore
  split <;> rfl

/-- The write phase runs a command, or stores into the control state and leaves the result of the last command. -/
theorem writePhase_cases {op : BusOp} {s u : State} (h : writePhase op s = .next u) :
    Commanded s u ∨ ∃ c, c.cmdResult = s.ctl.cmdResult ∧ u = { s with ctl := c } := by
  cases op with
  | idle => cases h; exact .inr ⟨_, rfl, rfl⟩
  | read w => cases h; exact .inr ⟨_, rfl, rfl⟩
  | write w d =>
    by_cases hw : w = cmdIdx
    · obtain ⟨t, ht, hcmd⟩ := exec_command_commanded d s
      rw [writePhase, runAt, decode, if_pos hw] at h
      obtain rfl : t = u := Host.Outcome.next.inj (ht.symm.trans h)
      exact .inl hcmd
    · simp only [writePhase, runAt, decode, if_neg hw, exec, execWr] at h
      obtain rfl : regStore w d s = u := Host.Outcome.next.inj h
      exact .inr ⟨_, regStore_cmdResult w d s, regStore_eq w d s⟩

/-! ### The invariant between the phases -/

/-- The part of the block's invariant that holds between any two phases of a cycle. What can wait at the start of a
cycle is not part of it: within a cycle a resend can wait for P4, a frame in the slot for P6 and a fault for P8. -/
structure PhaseInv (s : State) : Prop where
  cfg : s.cfg.legal = true
  df : dfInv s.df
  tx : txInv s.tx
  reg : regInv s.cfg s.reg
  evq : evqInv s.cfg s.evq
  sch : schInv s.cfg s.sch
  result : s.ctl.cmdResult.toNat < 2 ^ 12
  resend : s.sch.tickPend = true → s.sch.active = true

theorem BlockInv.phaseInv {s : State} (h : BlockInv s) : PhaseInv s :=
  ⟨h.cfg, h.df, h.tx, h.reg, h.evq, h.sch, h.result, fun hp => (h.resendWaits hp).2⟩

/-- A resend falls due only in a session (R214). -/
theorem schedTick_resend {s : State} (h : s.sch.tickPend = true → s.sch.active = true) :
    (schedTick s).sch.tickPend = true → (schedTick s).sch.active = true := by
  rcases schedTick_cases s with ⟨-, heq⟩ | ⟨ha, ⟨-, heq⟩ | ⟨-, heq⟩⟩ <;> rw [heq]
  · exact h
  · exact fun _ => ha
  · exact fun _ => ha

theorem PhaseInv.schedTick {s : State} (h : PhaseInv s) : PhaseInv (schedTick s) := by
  have hsch := schInv_schedTick h.cfg h.sch
  have hres := schedTick_resend h.resend
  rw [schedTick_eq]
  exact { h with sch := hsch, resend := hres }

/-- P1. -/
theorem PhaseInv.tickPhase {s : State} (h : PhaseInv s) (i : CycleIn) : PhaseInv (tickPhase i s) := by
  unfold Machine.tickPhase
  split
  · have hcount : PhaseInv (regCountdown s) := { h with reg := regInv_map_countEntry h.reg }
    exact hcount.schedTick
  · exact h

/-- P2: a byte is sent only from an engine that is active. -/
theorem PhaseInv.sendPhase {s : State} (h : PhaseInv s) (i : CycleIn) : PhaseInv (sendPhase i s.tx.active s) := by
  unfold Machine.sendPhase
  split
  case isTrue hsend =>
    have htx := txInv_txAdvance h.tx (Bool.and_eq_true_iff.mp hsend).1
    rw [txAdvance_eq]
    exact { h with tx := htx }
  case isFalse => exact h

theorem PhaseInv.commandEffect {s u : State} (h : PhaseInv s) (he : CommandEffect s u) : PhaseInv u := by
  cases he with
  | none => exact h
  | send t ht _ _ hroom =>
    have htx := txInv_txStart ht s.ctl.argPay s
    have hreg := regInv_registerRequest s.ctl.argPay s.ctl.argTimeout h.reg hroom
    rw [registerRequest_eq]
    exact { h with tx := htx, reg := hreg }
  | schedStart t ht hrate =>
    have hpos : 0 < s.cfg.thresh := (thresh_bounds h.cfg).1.trans_lt' (by decide)
    exact { h with
      sch := ⟨hpos, fun _ => ⟨ht, rate_of_rateRefusal_none hrate⟩, fun _ => rfl⟩
      resend := fun _ => rfl }
  | schedAdjust hact hrate =>
    obtain ⟨hacc, hsession, hidle⟩ := h.sch
    obtain ⟨htype, -⟩ := hsession hact
    exact { h with sch := ⟨hacc, fun _ => ⟨htype, rate_of_rateRefusal_none hrate⟩, hidle⟩ }
  | schedStop =>
    have hpos : 0 < s.cfg.thresh := (thresh_bounds h.cfg).1.trans_lt' (by decide)
    exact { h with sch := ⟨hpos, fun ha => (nomatch ha), fun _ => rfl⟩, resend := fun hp => (nomatch hp) }
  | evtPop => exact { h with evq := evqInv_tail h.evq }
  | clrCnt => exact { h with }

/-- CMD_RESULT holds an opcode of four bits and a result code of eight (R42, R232). -/
theorem resultWord_lt (op : BitVec 4) (c : ResultCode) : (resultWord op c).toNat < 2 ^ 12 := by
  revert op; cases c <;> decide

/-- P3. -/
theorem PhaseInv.writePhase {s u : State} (h : PhaseInv s) {op : BusOp} (hw : writePhase op s = .next u) :
    PhaseInv u := by
  rcases writePhase_cases hw with ⟨op, c, v, he, rfl⟩ | ⟨c, hc, rfl⟩
  · exact { h.commandEffect he with result := resultWord_lt op c }
  · exact { h with result := hc ▸ h.result }

/-- P4: a session's type is one the encoder can build. -/
theorem PhaseInv.schedService {s : State} (h : PhaseInv s) : PhaseInv (schedService s) := by
  rcases schedService_cases s with ⟨-, heq⟩ | ⟨hp, -, ⟨-, -, heq⟩ | ⟨hroom, heq⟩⟩ <;> rw [heq]
  · exact h
  · exact { h with resend := fun hp => (nomatch hp) }
  · obtain ⟨-, hsession, -⟩ := h.sch
    obtain ⟨htype, -⟩ := hsession (h.resend hp)
    exact { h with
      tx := txInv_txStart htype s.sch.pay s
      reg := regInv_registerRequest s.sch.pay s.sch.timeout h.reg hroom
      resend := fun hp => (nomatch hp) }

/-- P5. -/
theorem PhaseInv.receiveState {s : State} (h : PhaseInv s) (i : CycleIn) (wasFull : Bool) :
    PhaseInv (receiveState i wasFull s) := by
  unfold Machine.receiveState
  split
  · have hdf := dfInv_dfState i.rxByte h.df
    rw [dfState_eq]
    exact { h with df := hdf }
  · exact h

theorem PhaseInv.respond {s : State} (h : PhaseInv s) {code : Byte} (hc : code ∈ responseTypes) (k : Kind) :
    PhaseInv (respond code k s) := by
  have hcode : code ∈ eventCodes := by revert code; decide
  rcases respond_cases s code k with ⟨-, heq⟩ | ⟨hroom, ⟨-, heq⟩ | ⟨-, heq⟩⟩ <;> rw [heq]
  · exact h
  · exact { h with reg := regInv_sublist h.reg List.eraseP_sublist, evq := evqInv_append h.evq hroom hcode }
  · exact { h with evq := evqInv_append h.evq hroom hcode }

/-- What the dispatcher does with the data type in the slot: a response is handled as its row says, any other frame
dropped (42_dispatcher.md R172, R178). -/
theorem stageState_dispatched_cases (t : Byte) (s : State) :
    (t ∈ responseTypes ∧ ∃ k, stageState t .dispatched s = respond t k s) ∨
    (t ∉ responseTypes ∧ stageState t .dispatched s = dropFrame s) := by
  simp only [stageState, responseTypes, List.mem_cons, List.not_mem_nil, or_false, not_or]
  split_ifs with h2 h3 h7
  · exact .inl ⟨.inl h2, _, by rw [h2]⟩
  · exact .inl ⟨.inr (.inl h3), _, by rw [h3]⟩
  · exact .inl ⟨.inr (.inr h7), _, by rw [h7]⟩
  · exact .inr ⟨⟨h2, h3, h7⟩, rfl⟩

/-- P6. -/
theorem PhaseInv.dispatchState {s : State} (h : PhaseInv s) : PhaseInv (dispatchState s) := by
  unfold Machine.dispatchState
  split
  · rcases stageState_dispatched_cases s.slot.dtype s with ⟨ht, k, heq⟩ | ⟨-, heq⟩ <;> rw [heq]
    · exact h.respond ht k
    · exact { h with }
  · exact h

/-- P7. -/
theorem PhaseInv.faultPhase {s : State} (h : PhaseInv s) (i : CycleIn) : PhaseInv (faultPhase i s) := by
  unfold Machine.faultPhase
  split
  · exact { h with }
  · exact h

theorem PhaseInv.timeoutPush {s : State} (h : PhaseInv s) : PhaseInv (timeoutPush s) := by
  rcases timeoutPush_cases s with ⟨-, heq⟩ | ⟨e, -, hroom, heq⟩ <;> rw [heq]
  · exact h
  · have hcode : (timeoutEvent e).code ∈ eventCodes := by simp [timeoutEvent, eventCodes]
    exact { h with
      reg := regInv_sublist h.reg List.eraseP_sublist
      evq := evqInv_append h.evq hroom hcode }

/-- P8. -/
theorem PhaseInv.pushPhase {s : State} (h : PhaseInv s) : PhaseInv (pushPhase s) := by
  have ht := h.timeoutPush
  unfold Machine.pushPhase
  rcases faultPush_cases (Machine.timeoutPush s) with ⟨-, heq⟩ | ⟨-, hroom, heq⟩ <;> rw [heq]
  · exact ht
  · have hcode : (faultEvent (Machine.timeoutPush s).flt.code).code ∈ eventCodes := by
      simp [faultEvent, eventCodes]
    exact { ht with evq := evqInv_append ht.evq hroom hcode }

end Sys2Proof.Machine
end

section
/-! SUPPORT. What can still wait when a cycle ends, and the block's invariant through a whole cycle. -/

namespace Sys2Proof.Machine

section
variable (i : CycleIn) (s : State)

/-! ### What each phase leaves alone -/

@[simp] theorem tickPhase_tx : (tickPhase i s).tx = s.tx := by
  unfold tickPhase
  split
  · rw [schedTick_eq, regCountdown_tx]
  · rfl

@[simp] theorem tickPhase_df : (tickPhase i s).df = s.df := by
  unfold tickPhase
  split
  · rw [schedTick_eq, regCountdown_df]
  · rfl

@[simp] theorem tickPhase_out : (tickPhase i s).out = s.out := by
  unfold tickPhase
  split
  · rw [schedTick_eq, regCountdown_out]
  · rfl

@[simp] theorem sendPhase_df (b : Bool) : (sendPhase i b s).df = s.df := by
  unfold sendPhase
  split
  · rw [txAdvance_eq]
  · rfl

@[simp] theorem sendPhase_out (b : Bool) : (sendPhase i b s).out = s.out := by
  unfold sendPhase
  split
  · rw [txAdvance_eq]
  · rfl

@[simp] theorem schedService_df : (schedService s).df = s.df := by rw [schedService_eq]
@[simp] theorem schedService_out : (schedService s).out = s.out := by rw [schedService_eq]

@[simp] theorem receiveState_tx (b : Bool) : (receiveState i b s).tx = s.tx := by
  unfold receiveState
  split
  · rw [dfState_eq]
  · rfl

@[simp] theorem receiveState_sch (b : Bool) : (receiveState i b s).sch = s.sch := by
  unfold receiveState
  split
  · rw [dfState_eq]
  · rfl

@[simp] theorem receiveState_out (b : Bool) : (receiveState i b s).out = s.out := by
  unfold receiveState
  split
  · rw [dfState_eq]
  · rfl

/-- The dispatcher changes the registry, the event queue, the counters and the slot only. -/
theorem dispatchState_eq : dispatchState s =
    { s with reg := (dispatchState s).reg, evq := (dispatchState s).evq, cnt := (dispatchState s).cnt
             slot := (dispatchState s).slot } := by
  unfold dispatchState
  split
  · rcases stageState_dispatched_cases s.slot.dtype s with ⟨-, k, heq⟩ | ⟨-, heq⟩ <;> rw [heq]
    · rw [respond_eq]
    · rfl
  · rfl

@[simp] theorem dispatchState_tx : (dispatchState s).tx = s.tx := by rw [dispatchState_eq]
@[simp] theorem dispatchState_sch : (dispatchState s).sch = s.sch := by rw [dispatchState_eq]
@[simp] theorem dispatchState_out : (dispatchState s).out = s.out := by rw [dispatchState_eq]

/-- P7 changes the waiting fault and the counters only. -/
theorem faultPhase_eq : faultPhase i s = { s with flt := (faultPhase i s).flt, cnt := (faultPhase i s).cnt } := by
  unfold faultPhase
  split <;> rfl

@[simp] theorem faultPhase_tx : (faultPhase i s).tx = s.tx := by rw [faultPhase_eq]
@[simp] theorem faultPhase_sch : (faultPhase i s).sch = s.sch := by rw [faultPhase_eq]
@[simp] theorem faultPhase_out : (faultPhase i s).out = s.out := by rw [faultPhase_eq]

@[simp] theorem pushPhase_tx : (pushPhase s).tx = s.tx := by rw [pushPhase, faultPush_eq, timeoutPush_eq]
@[simp] theorem pushPhase_sch : (pushPhase s).sch = s.sch := by rw [pushPhase, faultPush_eq, timeoutPush_eq]
@[simp] theorem pushPhase_out : (pushPhase s).out = s.out := by rw [pushPhase, faultPush_eq, timeoutPush_eq]

/-- P5 to P8 leave the scheduler and the engine as P4 made them. -/
theorem afterState_sch (b : Bool) : (afterState i b s).sch = (schedService s).sch := by simp [afterState]
theorem afterState_tx (b : Bool) : (afterState i b s).tx = (schedService s).tx := by simp [afterState]

@[simp] theorem afterState_out (b : Bool) : (afterState i b s).out = s.out := by simp [afterState]

/-! ### What waits when a cycle ends -/

variable {i s}

/-- After P4 a resend waits only for the wire (R37 item 4). -/
theorem schedService_waits (h : (schedService s).sch.tickPend = true) : (schedService s).tx.active = true := by
  rcases schedService_cases s with ⟨hidle, heq⟩ | ⟨-, -, ⟨-, -, heq⟩ | ⟨-, heq⟩⟩ <;> rw [heq] at h ⊢
  · exact hidle.resolve_left (by simp [h])
  · cases h
  · cases h

/-- A frame in the slot waits only for room in the event queue (42_dispatcher.md R179, R183). -/
def SlotWaits (s : State) : Prop :=
  s.slot.full = true → s.slot.dtype ∈ responseTypes ∧ s.evq.length = s.cfg.evqDepth

/-- The dispatcher empties the slot but for a response that stalls on a full queue. -/
theorem slotWaits_dispatchState (h : evqInv s.cfg s.evq) : SlotWaits (dispatchState s) := by
  unfold SlotWaits dispatchState
  split
  · rcases stageState_dispatched_cases s.slot.dtype s with ⟨ht, k, heq⟩ | ⟨-, heq⟩ <;> rw [heq]
    · rcases respond_cases s s.slot.dtype k with ⟨hroom, heq⟩ | ⟨-, ⟨-, heq⟩ | ⟨-, heq⟩⟩ <;> rw [heq]
      · exact fun _ => ⟨ht, evq_full_of_no_room h hroom⟩
      · exact fun hfull => nomatch hfull
      · exact fun hfull => nomatch hfull
    · exact fun hfull => nomatch hfull
  · rename_i hempty
    exact fun hfull => absurd hfull hempty

theorem SlotWaits.faultPhase (h : SlotWaits s) : SlotWaits (faultPhase i s) := by
  rw [faultPhase_eq]
  exact h

/-- While a frame waits in the slot the queue has no room for another event. -/
theorem SlotWaits.no_room (h : SlotWaits s) (hroom : evqHasRoom s = true) : s.slot.full ≠ true := by
  intro hfull
  have hlt : s.evq.length < s.cfg.evqDepth := of_decide_eq_true hroom
  exact hlt.ne (h hfull).2

theorem SlotWaits.timeoutPush (h : SlotWaits s) : SlotWaits (timeoutPush s) := by
  rcases timeoutPush_cases s with ⟨-, heq⟩ | ⟨e, -, hroom, heq⟩ <;> rw [heq]
  · exact h
  · exact fun hfull => absurd hfull (h.no_room hroom)

theorem SlotWaits.faultPush (h : SlotWaits s) : SlotWaits (faultPush s) := by
  rcases faultPush_cases s with ⟨-, heq⟩ | ⟨-, hroom, heq⟩ <;> rw [heq]
  · exact h
  · exact fun hfull => absurd hfull (h.no_room hroom)

/-- After P8 a Transport fault waits only for room in the event queue (60_exceptions.md R267). -/
theorem faultPush_waits (h : evqInv s.cfg s.evq) (hp : (faultPush s).flt.pend = true) :
    (faultPush s).evq.length = (faultPush s).cfg.evqDepth := by
  rcases faultPush_cases s with ⟨hwait, heq⟩ | ⟨-, -, heq⟩ <;> rw [heq] at hp ⊢
  · exact evq_full_of_no_room h (hwait.resolve_left (by simp [hp]))
  · cases hp

/-! ### The invariant through a cycle -/

/-- P1 and P2. -/
theorem PhaseInv.beforeState (h : PhaseInv s) (i : CycleIn) (o : CycleOut) : PhaseInv (beforeState i o s) := by
  have hout : PhaseInv { s with out := { o with busRdata := readData i.busOp s } } := { h with }
  have hsend := (hout.tickPhase i).sendPhase i
  rwa [tickPhase_tx] at hsend

/-- P4 to P8 end in a state with the block's invariant. -/
theorem PhaseInv.blockInv_afterState (h : PhaseInv s) (i : CycleIn) (wasFull : Bool) :
    BlockInv (afterState i wasFull s) := by
  have hreceive := h.schedService.receiveState i wasFull
  have hfault := hreceive.dispatchState.faultPhase i
  have hend : PhaseInv (afterState i wasFull s) := hfault.pushPhase
  have hslot := (slotWaits_dispatchState hreceive.evq).faultPhase (i := i)
  refine
    { cfg := hend.cfg, df := hend.df, tx := hend.tx, reg := hend.reg, evq := hend.evq, sch := hend.sch
      result := hend.result
      resendWaits := fun hp => ⟨?_, hend.resend hp⟩
      slotWaits := hslot.timeoutPush.faultPush
      faultWaits := faultPush_waits hfault.timeoutPush.evq }
  rw [afterState_sch] at hp
  rw [afterState_tx]
  exact schedService_waits hp

end

/-- A reset state has the invariant under every legal choice of the parameters (R286). -/
theorem blockInv_resetWith {c : Config} (hc : c.legal = true) (ins : List CycleIn) :
    BlockInv (State.resetWith c ins) where
  cfg := hc
  df := ⟨Nat.zero_le _, Nat.zero_le _, trivial⟩
  tx := ⟨Nat.zero_le _, fun _ => rfl, fun ha => nomatch ha⟩
  reg := ⟨Nat.zero_le _, by simp [State.resetWith]⟩
  evq := ⟨Nat.zero_le _, by simp [State.resetWith]⟩
  sch := ⟨(thresh_bounds hc).1.trans_lt' (by decide : 0 < 1000), fun ha => (nomatch ha), fun _ => rfl⟩
  result := (by decide : 0 < 2 ^ 12)
  resendWaits := fun hp => nomatch hp
  slotWaits := fun hp => nomatch hp
  faultWaits := fun hp => nomatch hp

/-- Settles O54: the part of the invariant that every phase keeps goes through P1 to P8, and what may wait is
established by the phase that serves it. -/
theorem stepKeepsInvariant : Obligations.StepKeepsInvariant := by
  intro s u h hstep
  rcases cycle_cases hstep with ⟨-, rfl⟩ | ⟨-, o, t, -, hwrite, rfl⟩
  · exact blockInv_resetWith h.cfg _
  · have hstart : PhaseInv (takeInput s) := { h.phaseInv with }
    exact ((hstart.beforeState _ o).writePhase hwrite).blockInv_afterState _ _

end Sys2Proof.Machine
end

section
/-! SUPPORT. The unused payload bytes through the phases of a cycle. -/

namespace Sys2Proof.Machine

/-! ### Payloads with zeros at the end -/

theorem zeroFrom_mono {m n : Nat} {p : Pay} (h : zeroFrom m p) (hmn : m ≤ n) : zeroFrom n p :=
  fun i hi => h i (hmn.trans hi)

theorem zeroFrom_zero (n : Nat) : zeroFrom n Pay.zero := fun i _ => by simp [Pay.zero]

/-- A snapshot is 0 above the size of its type (R126). -/
theorem zeroFrom_snapshot (t : Byte) (p : Pay) : zeroFrom ((size t).getD 0) (snapshot t p) := by
  intro i hi
  simp [snapshot, firstBytes, Nat.not_lt.mpr hi]

/-- A byte stored at the first unused place leaves zeros above it (R158). -/
theorem zeroFrom_setIfInBounds {n : Nat} {p : Pay} (h : zeroFrom n p) (v : Byte) :
    zeroFrom (n + 1) (p.setIfInBounds n v) := by
  intro i hi
  show (p.setIfInBounds n v)[i.val] = 0
  rw [Vector.getElem_setIfInBounds, if_neg (by omega)]
  exact h i (by omega)

/-! ### The receive path -/

section
variable {s : State}

/-- A payload byte that is not past the length keeps the buffer 0 above the bytes taken. -/
theorem PaddingInv.storePayload (h : PaddingInv s) (hs : s.df.state = .readingPayload)
    (hlt : s.df.pcnt < s.df.len) (v : Byte) : PaddingInv (storePayload v s) := by
  have hpad : zeroFrom s.df.pcnt.toNat s.df.pay := by simpa [dfPadding, hs] using h.df
  have hcount : (s.df.pcnt + 1).toNat = s.df.pcnt.toNat + 1 := by bv_omega
  refine { h with df := ?_ }
  simp only [dfPadding, Machine.storePayload, hs, hcount]
  split
  · exact zeroFrom_setIfInBounds hpad v
  · exact zeroFrom_mono hpad (Nat.le_succ _)

/-- A frame at its end keeps the unused bytes 0: it is emitted only with the length its type has. -/
theorem PaddingInv.complete (h : PaddingInv s) (hpad : zeroFrom s.df.len.toNat s.df.pay) :
    PaddingInv (complete (size s.df.dtype) s) := by
  rcases complete_cases s (size s.df.dtype) with ⟨hsize, heq⟩ | ⟨-, heq⟩ <;> rw [heq]
  · have hframe : zeroFrom ((size s.df.dtype).getD 0) s.df.pay := by rwa [hsize]
    exact { h with df := trivial, slot := hframe, last := hframe }
  · exact { h with df := trivial }

theorem PaddingInv.checkLength (h : PaddingInv s) (hp : s.df.pcnt = 0) (hpad : zeroFrom 0 s.df.pay) :
    PaddingInv (checkLength (size s.df.dtype) s) := by
  rcases checkLength_cases s (size s.df.dtype) with ⟨-, heq⟩ | ⟨-, heq⟩ <;> rw [heq]
  · have hcount : PaddingInv { s with cnt := lengthCounted (size s.df.dtype) s } := { h with }
    exact hcount.complete (zeroFrom_mono hpad (Nat.zero_le _))
  · refine { h with df := ?_ }
    show zeroFrom s.df.pcnt.toNat s.df.pay
    rwa [hp]

theorem PaddingInv.typed (h : PaddingInv s) (v : Byte) (hp : s.df.pcnt = 0) (hpad : zeroFrom 0 s.df.pay) :
    PaddingInv (stageState v .typed s) := by
  simp only [stageState]
  split
  · exact { h with df := ⟨hp, hpad⟩ }
  · exact { h with df := trivial }

theorem PaddingInv.acceptState (h : PaddingInv s) (hdf : dfInv s.df) (v : Byte) : PaddingInv (acceptState v s) := by
  obtain ⟨-, -, hst⟩ := hdf
  have hpad := h.df
  unfold Machine.acceptState
  cases hs : s.df.state <;> simp only [hs, dfPadding] at hst hpad ⊢
  case awaitingSync => exact h
  case readingHeader =>
    obtain ⟨hp0, hpay⟩ := hpad
    split
    · refine { h with df := ?_ }
      simp only [dfPadding, storeReserved, hs]
      exact ⟨hp0, hpay⟩
    · exact h.typed v hp0 hpay
  case readingLength =>
    obtain ⟨hp0, hpay⟩ := hpad
    have hshift : PaddingInv (shiftLength v s) := by
      refine { h with df := ?_ }
      simp only [dfPadding, shiftLength, hs]
      exact ⟨hp0, hpay⟩
    split
    · exact hshift.checkLength hp0 hpay
    · exact hshift
  case readingPayload =>
    obtain ⟨-, -, hlt, -⟩ := hst
    have hstore := h.storePayload hs hlt v
    split
    · rename_i hlast
      have hend : zeroFrom (s.df.pcnt + 1).toNat (Machine.storePayload v s).df.pay := by
        have hdf := hstore.df
        simp only [dfPadding, Machine.storePayload, hs] at hdf ⊢
        exact hdf
      exact hstore.complete (hlast ▸ hend)
    · exact hstore

theorem PaddingInv.setPend (h : PaddingInv s) (b : Bool) : PaddingInv (setPend b s) := { h with df := h.df }

/-- A new frame starts with an empty payload buffer (R144). -/
theorem PaddingInv.startFrame (h : PaddingInv s) (b : Byte) : PaddingInv (startFrame b s) :=
  { h with df := ⟨rfl, zeroFrom_zero 0⟩ }

/-- Every received byte keeps the unused bytes 0. -/
theorem PaddingInv.dfState (h : PaddingInv s) (hdf : dfInv s.df) (b : Byte) : PaddingInv (dfState b s) := by
  unfold Machine.dfState
  split_ifs
  · exact h.setPend _
  · exact h.startFrame b
  · exact h
  · exact (h.setPend false).acceptState hdf SYNC
  · exact h.setPend true
  · have hcount : PaddingInv { s with cnt := s.cnt.incSyncErr } := { h with }
    exact hcount.startFrame b
  · exact h.acceptState hdf b

/-! ### The phases -/

/-- An event joins the queue: only a response's data has bytes to keep 0. -/
theorem padded_append {e : Event}
    (h : ∀ x ∈ s.evq, x.code ∈ responseTypes → zeroFrom ((size x.code).getD 0) x.data)
    (he : e.code ∈ responseTypes → zeroFrom ((size e.code).getD 0) e.data) :
    ∀ x ∈ s.evq ++ [e], x.code ∈ responseTypes → zeroFrom ((size x.code).getD 0) x.data := by
  intro x hx
  rcases List.mem_append.mp hx with hx | hx
  · exact h x hx
  · rwa [List.mem_singleton.mp hx]

/-- P1. -/
theorem PaddingInv.tickPhase (h : PaddingInv s) (i : CycleIn) : PaddingInv (tickPhase i s) := by
  unfold Machine.tickPhase
  split
  · have hsch : (schedTick (regCountdown s)).sch.dtype = s.sch.dtype ∧
        (schedTick (regCountdown s)).sch.pay = s.sch.pay := by
      rcases schedTick_cases (regCountdown s) with ⟨-, heq⟩ | ⟨-, ⟨-, heq⟩ | ⟨-, heq⟩⟩ <;> rw [heq] <;>
        exact ⟨rfl, rfl⟩
    rw [schedTick_eq]
    exact { h with sch := by simpa only [hsch] using h.sch }
  · exact h

/-- P2: a send keeps the frame that is being sent. -/
theorem PaddingInv.sendPhase (h : PaddingInv s) (i : CycleIn) (wasActive : Bool) :
    PaddingInv (sendPhase i wasActive s) := by
  unfold Machine.sendPhase
  split
  · rcases txAdvance_cases s with ⟨-, heq⟩ | ⟨raw, -, hstep⟩
    · rwa [heq]
    · obtain ⟨htype, -, hpay, -⟩ := txNext_cases raw s.tx
      have htx : zeroFrom ((size (txNext raw s.tx).dtype).getD 0) (txNext raw s.tx).pay := by
        rw [htype, hpay]; exact h.tx
      rcases hstep with ⟨-, heq⟩ | ⟨-, heq⟩ <;> rw [heq] <;> exact { h with tx := htx }
  · exact h

theorem PaddingInv.commandEffect {u : State} (h : PaddingInv s) (he : CommandEffect s u) : PaddingInv u := by
  cases he with
  | none => exact h
  | send t =>
    rw [registerRequest_eq]
    exact { h with tx := zeroFrom_snapshot t s.ctl.argPay }
  | schedStart t => exact { h with sch := zeroFrom_snapshot t s.ctl.argPay }
  | schedAdjust => exact { h with }
  | schedStop => exact { h with }
  | evtPop => exact { h with evq := fun e hmem => h.evq e (List.mem_of_mem_tail hmem) }
  | clrCnt => exact { h with }

/-- P3. -/
theorem PaddingInv.writePhase {u : State} (h : PaddingInv s) {op : BusOp} (hw : writePhase op s = .next u) :
    PaddingInv u := by
  rcases writePhase_cases hw with ⟨op, c, v, he, rfl⟩ | ⟨c, -, rfl⟩
  · exact { h.commandEffect he with }
  · exact { h with }

/-- P4: a resend takes its payload as a snapshot again. -/
theorem PaddingInv.schedService (h : PaddingInv s) : PaddingInv (schedService s) := by
  rcases schedService_cases s with ⟨-, heq⟩ | ⟨-, -, ⟨-, -, heq⟩ | ⟨-, heq⟩⟩ <;> rw [heq]
  · exact h
  · exact { h with }
  · exact { h with tx := zeroFrom_snapshot s.sch.dtype s.sch.pay }

/-- P5. -/
theorem PaddingInv.receiveState (h : PaddingInv s) (hdf : dfInv s.df) (i : CycleIn) (wasFull : Bool) :
    PaddingInv (receiveState i wasFull s) := by
  unfold Machine.receiveState
  split
  · exact h.dfState hdf _
  · exact h

/-- P6: a response event takes its data from the slot (42_dispatcher.md R177). -/
theorem PaddingInv.dispatchState (h : PaddingInv s) : PaddingInv (dispatchState s) := by
  have hevent : ∀ m k, ∀ x ∈ s.evq ++ [responseEvent s.slot.dtype m k s.slot.pay],
      x.code ∈ responseTypes → zeroFrom ((size x.code).getD 0) x.data :=
    fun m k => padded_append h.evq fun _ => h.slot
  unfold Machine.dispatchState
  split
  · rcases stageState_dispatched_cases s.slot.dtype s with ⟨-, k, heq⟩ | ⟨-, heq⟩ <;> rw [heq]
    · rcases respond_cases s s.slot.dtype k with ⟨-, heq⟩ | ⟨-, ⟨-, heq⟩ | ⟨-, heq⟩⟩ <;> rw [heq]
      · exact h
      · exact { h with evq := hevent true k }
      · exact { h with evq := hevent false k }
    · exact { h with }
  · exact h

/-- P7. -/
theorem PaddingInv.faultPhase (h : PaddingInv s) (i : CycleIn) : PaddingInv (faultPhase i s) := by
  rw [faultPhase_eq]
  exact { h with }

theorem PaddingInv.timeoutPush (h : PaddingInv s) : PaddingInv (timeoutPush s) := by
  rcases timeoutPush_cases s with ⟨-, heq⟩ | ⟨e, -, -, heq⟩ <;> rw [heq]
  · exact h
  · have hcode : (timeoutEvent e).code ∉ responseTypes := by simp [timeoutEvent, responseTypes]
    exact { h with evq := padded_append h.evq fun hc => absurd hc hcode }

theorem PaddingInv.faultPush (h : PaddingInv s) : PaddingInv (faultPush s) := by
  rcases faultPush_cases s with ⟨-, heq⟩ | ⟨-, -, heq⟩ <;> rw [heq]
  · exact h
  · have hcode : (faultEvent s.flt.code).code ∉ responseTypes := by simp [faultEvent, responseTypes]
    exact { h with evq := padded_append h.evq fun hc => absurd hc hcode }

end

/-! ### The cycle -/

theorem paddingInv_resetWith (c : Config) (ins : List CycleIn) : PaddingInv (State.resetWith c ins) where
  df := trivial
  slot := zeroFrom_zero _
  last := zeroFrom_zero _
  tx := zeroFrom_zero _
  sch := zeroFrom_zero _
  evq := fun _ he => nomatch he

/-- P1 to P3 keep the unused bytes 0, and so do P4 to P8 when the deframer's counters are where its state says. -/
theorem PaddingInv.afterState {s : State} (h : PaddingInv s) (hdf : dfInv s.df) (i : CycleIn) (wasFull : Bool) :
    PaddingInv (afterState i wasFull s) := by
  have hreceive := h.schedService.receiveState (by rwa [schedService_df]) i wasFull
  exact (hreceive.dispatchState.faultPhase i).timeoutPush.faultPush

/-- Settles O56: each phase keeps the unused bytes 0; the receive path needs the deframer's counters, which the
phases before it keep where its state says. -/
theorem stepKeepsUnusedBytesZero : Obligations.StepKeepsUnusedBytesZero := by
  intro s u hinv h hstep
  rcases cycle_cases hstep with ⟨-, rfl⟩ | ⟨-, o, t, -, hwrite, rfl⟩
  · exact paddingInv_resetWith _ _
  · have hstart : PhaseInv (takeInput s) := { hinv.phaseInv with }
    have hdf := ((hstart.beforeState _ o).writePhase hwrite).df
    have hout : PaddingInv
        { takeInput s with out := { o with busRdata := readData (nextInput s).busOp (takeInput s) } } := { h with }
    have hbefore : PaddingInv (beforeState (nextInput s) o (takeInput s)) := (hout.tickPhase _).sendPhase _ _
    exact (hbefore.writePhase hwrite).afterState hdf _ _

end Sys2Proof.Machine
end

section
/-! SUPPORT. A cycle against its start state: its outputs, the Read in it, and the instruction it runs. -/

namespace Sys2Proof.Machine

/-! ### What the phases do not read

Only the Read, the Write and the outputs of a cycle look at the control state, and nothing looks at the coming inputs
or at the last cycle's outputs: P1, P2 and P4 to P8 answer the same with these three replaced, and carry the
replacements along. -/

/-- `s` with the control state, the coming inputs and the outputs replaced. -/
def State.withHost (c : Control) (ins : List CycleIn) (o : CycleOut) (s : State) : State :=
  { s with ctl := c, inputs := ins, out := o }

section
variable (c : Control) (ins : List CycleIn) (o : CycleOut) (i : CycleIn) (s : State)

@[simp] theorem withHost_df : (s.withHost c ins o).df = s.df := rfl
@[simp] theorem withHost_slot : (s.withHost c ins o).slot = s.slot := rfl
@[simp] theorem withHost_tx : (s.withHost c ins o).tx = s.tx := rfl
@[simp] theorem withHost_reg : (s.withHost c ins o).reg = s.reg := rfl
@[simp] theorem withHost_sch : (s.withHost c ins o).sch = s.sch := rfl
@[simp] theorem withHost_flt : (s.withHost c ins o).flt = s.flt := rfl
@[simp] theorem regIsFull_withHost : regIsFull (s.withHost c ins o) = regIsFull s := rfl
@[simp] theorem evqHasRoom_withHost : evqHasRoom (s.withHost c ins o) = evqHasRoom s := rfl
@[simp] theorem lengthFits_withHost (sz : Option Nat) : lengthFits sz (s.withHost c ins o) = lengthFits sz s := rfl

theorem schedTick_withHost : schedTick (s.withHost c ins o) = (schedTick s).withHost c ins o := by
  dsimp only [schedTick, State.withHost]
  split_ifs <;> rfl

theorem tickPhase_withHost : tickPhase i (s.withHost c ins o) = (tickPhase i s).withHost c ins o := by
  unfold tickPhase
  split
  · exact schedTick_withHost c ins o (regCountdown s)
  · rfl

theorem txAdvance_withHost : txAdvance (s.withHost c ins o) = (txAdvance s).withHost c ins o := by
  dsimp only [txAdvance, State.withHost]
  cases rawFrame s.tx.dtype s.tx.pay with
  | none => rfl
  | some raw => dsimp only; split_ifs <;> rfl

theorem sendPhase_withHost (b : Bool) : sendPhase i b (s.withHost c ins o) = (sendPhase i b s).withHost c ins o := by
  unfold sendPhase
  split
  · exact txAdvance_withHost c ins o s
  · rfl

theorem registerRequest_withHost (t : Byte) (p : Pay) (d : Word) :
    registerRequest t p d (s.withHost c ins o) = (registerRequest t p d s).withHost c ins o := by
  unfold registerRequest
  cases requestKind t <;> rfl

theorem schedService_withHost : schedService (s.withHost c ins o) = (schedService s).withHost c ins o := by
  unfold schedService
  rw [withHost_sch, withHost_tx, regIsFull_withHost, registerRequest_withHost]
  split_ifs <;> rfl

theorem complete_withHost (sz : Option Nat) : complete sz (s.withHost c ins o) = (complete sz s).withHost c ins o := by
  unfold complete
  rw [lengthFits_withHost]
  split_ifs <;> rfl

theorem checkLength_withHost (sz : Option Nat) :
    checkLength sz (s.withHost c ins o) = (checkLength sz s).withHost c ins o := by
  rcases checkLength_cases s sz with ⟨hlen, heq⟩ | ⟨hlen, heq⟩ <;>
    rcases checkLength_cases (s.withHost c ins o) sz with ⟨hlen', heq'⟩ | ⟨hlen', heq'⟩ <;> rw [heq, heq']
  · exact complete_withHost c ins o { s with cnt := lengthCounted sz s } sz
  · exact absurd hlen hlen'
  · exact absurd hlen' hlen
  · rfl

theorem respond_withHost (code : Byte) (k : Kind) :
    respond code k (s.withHost c ins o) = (respond code k s).withHost c ins o := by
  dsimp only [respond, regMatchRemove]
  rw [evqHasRoom_withHost, withHost_reg, withHost_slot]
  split_ifs <;> rfl

theorem stageState_withHost (t : Byte) (st : FrameStage) :
    stageState t st (s.withHost c ins o) = (stageState t st s).withHost c ins o := by
  cases st with
  | typed => unfold stageState; dsimp only; split_ifs <;> rfl
  | lengthRead => exact checkLength_withHost c ins o s _
  | completed => exact complete_withHost c ins o s _
  | dispatched =>
    unfold stageState
    dsimp only
    split_ifs
    · exact respond_withHost c ins o s _ _
    · exact respond_withHost c ins o s _ _
    · exact respond_withHost c ins o s _ _
    · rfl

theorem acceptState_withHost (v : Byte) :
    acceptState v (s.withHost c ins o) = (acceptState v s).withHost c ins o := by
  unfold acceptState
  rw [withHost_df]
  cases s.df.state with
  | awaitingSync => rfl
  | readingHeader =>
    dsimp only
    split
    · rfl
    · exact stageState_withHost ..
  | readingLength =>
    dsimp only
    split
    · exact stageState_withHost c ins o (shiftLength v s) _ _
    · rfl
  | readingPayload =>
    dsimp only
    split
    · exact stageState_withHost c ins o (storePayload v s) _ _
    · rfl

theorem dfState_withHost (b : Byte) : dfState b (s.withHost c ins o) = (dfState b s).withHost c ins o := by
  unfold dfState
  rw [withHost_df]
  split_ifs
  · rfl
  · rfl
  · rfl
  · exact acceptState_withHost c ins o (setPend false s) SYNC
  · rfl
  · rfl
  · exact acceptState_withHost c ins o s b

theorem receiveState_withHost (b : Bool) :
    receiveState i b (s.withHost c ins o) = (receiveState i b s).withHost c ins o := by
  unfold receiveState
  split
  · exact dfState_withHost c ins o s _
  · rfl

theorem dispatchState_withHost : dispatchState (s.withHost c ins o) = (dispatchState s).withHost c ins o := by
  unfold dispatchState
  rw [withHost_slot]
  split
  · exact stageState_withHost c ins o s _ _
  · rfl

theorem faultPhase_withHost : faultPhase i (s.withHost c ins o) = (faultPhase i s).withHost c ins o := by
  unfold faultPhase
  split <;> rfl

theorem timeoutPush_withHost : timeoutPush (s.withHost c ins o) = (timeoutPush s).withHost c ins o := by
  unfold timeoutPush
  rw [withHost_reg, evqHasRoom_withHost]
  cases s.reg.find? (·.expired) with
  | none => rfl
  | some e => dsimp only; split <;> rfl

theorem faultPush_withHost : faultPush (s.withHost c ins o) = (faultPush s).withHost c ins o := by
  unfold faultPush
  rw [withHost_flt, evqHasRoom_withHost]
  split <;> rfl

/-- P1 and P2. -/
theorem beforePhases_withHost (b : Bool) : sendPhase i b (tickPhase i (s.withHost c ins o)) =
    (sendPhase i b (tickPhase i s)).withHost c ins o := by
  rw [tickPhase_withHost, sendPhase_withHost]

/-- P4 to P8. -/
theorem afterState_withHost (b : Bool) :
    afterState i b (s.withHost c ins o) = (afterState i b s).withHost c ins o := by
  simp only [afterState, pushPhase, schedService_withHost, receiveState_withHost, dispatchState_withHost,
    faultPhase_withHost, timeoutPush_withHost, faultPush_withHost]

end

/-! ### The outputs -/

/-- The outputs of a cycle without reset, from its start state (R23). -/
theorem portOutputs_fields {s : State} {o : CycleOut} (h : portOutputs s = some o) :
    o.rxReady = !s.slot.full ∧ o.txValid = s.tx.active ∧ (s.tx.active = true → txByte s.tx = some o.txByte) ∧
      (s.tx.active = false → o.txByte = 0) ∧ o.irq = irqLevel s := by
  unfold portOutputs at h
  cases ha : s.tx.active with
  | false =>
    simp only [ha, Bool.false_eq_true, if_false, Option.some.injEq] at h
    subst h
    exact ⟨rfl, rfl, fun h => (nomatch h), fun _ => rfl, rfl⟩
  | true =>
    simp only [ha, if_true] at h
    obtain ⟨b, hb, rfl⟩ := Option.map_eq_some_iff.mp h
    exact ⟨rfl, rfl, fun _ => hb, fun h => (nomatch h), rfl⟩

/-- The interrupt level, with the queue's emptiness written as R264 has it. -/
theorem irqLevel_eq (s : State) : irqLevel s = (s.ctl.irqEn && !s.evq.isEmpty) := by
  cases h : s.evq <;> simp [irqLevel, h]

/-- The phases of a cycle keep the outputs it began with. -/
theorem afterState_writePhase_out {i : CycleIn} {o : CycleOut} {s u : State} {b : Bool}
    (h : writePhase i.busOp (beforeState i o s) = .next u) :
    (afterState i b u).out = { o with busRdata := readData i.busOp s } := by
  have hu : u.out = (beforeState i o s).out := by
    obtain ⟨t, ht, heq⟩ := writePhase_frame i.busOp (beforeState i o s)
    obtain rfl : t = u := Host.Outcome.next.inj (ht.symm.trans h)
    rw [heq]
  rw [afterState_out, hu, beforeState, sendPhase_out, tickPhase_out]

/-- Settles O48: no phase after the Read writes the outputs. -/
theorem outputsComeFromStartState : Obligations.OutputsComeFromStartState := by
  intro s u hstep
  rcases cycle_cases hstep with ⟨hrst, rfl⟩ | ⟨hrst, o, t, ho, hwrite, rfl⟩
  · exact ⟨fun _ => rfl, fun h => by simp [hrst] at h⟩
  · refine ⟨fun h => by simp [hrst] at h, fun _ => ?_⟩
    obtain ⟨hready, hvalid, hbyte, hidle, hirq⟩ := portOutputs_fields ho
    rw [afterState_writePhase_out hwrite]
    refine ⟨fun w hop => ?_, fun hop => ?_, hready, hvalid, hbyte, hidle, hirq.trans (irqLevel_eq s)⟩
    · simp only [hop, readData]
      rfl
    · cases hb : (nextInput s).busOp with
      | read w => exact absurd hb (hop w)
      | idle => rfl
      | write w d => rfl

/-! ### A Read -/

/-- A cycle without reset and without a Write answers its phases in order. -/
theorem cycle_eq_of_no_write {i : CycleIn} {o : CycleOut} {s : State} (hr : i.rst = false)
    (ho : portOutputs s = some o) (hop : ∀ w d, i.busOp ≠ .write w d) :
    cycle i s = .next (afterState i s.slot.full (beforeState i o s)) := by
  obtain ⟨u, hu, heq⟩ := cycle_next hr ho
  have hskip : writePhase i.busOp (beforeState i o s) = .next (beforeState i o s) := by
    cases hb : i.busOp with
    | write w d => exact absurd hb (hop w d)
    | idle => rfl
    | read w => rfl
  rw [heq, Host.Outcome.next.inj (hu.symm.trans hskip)]

/-- Without a Write, a cycle is the phases without the outputs, and the control state, the coming inputs and the
outputs carried along. -/
theorem afterState_beforeState (i : CycleIn) (o : CycleOut) (b : Bool) (s : State) :
    afterState i b (beforeState i o s) =
      (afterState i b (sendPhase i s.tx.active (tickPhase i s))).withHost s.ctl s.inputs
        { o with busRdata := readData i.busOp s } := by
  rw [← afterState_withHost, ← beforePhases_withHost]
  rfl

/-- Settles O59: the phases carry the outputs along unread, so that a Read's data changes nothing else. -/
theorem readsDisturbNothing : Obligations.ReadsDisturbNothing := by
  intro s u i ins w hrst hop hstep
  rcases cycle_cases hstep with ⟨hr, -⟩ | ⟨-, o, -, ho, -, -⟩
  · exact absurd (hrst.symm.trans hr) (by decide)
  have hidle : step { s with inputs := i :: ins } = _ :=
    cycle_eq_of_no_write (i := i) (s := { s with inputs := ins }) hrst ho (by simp [hop])
  have hread : step { s with inputs := { i with busOp := .read w } :: ins } = _ :=
    cycle_eq_of_no_write (i := { i with busOp := .read w }) (s := { s with inputs := ins }) hrst ho
      (fun _ _ h => nomatch h)
  rw [afterState_beforeState] at hidle hread
  obtain rfl := Host.Outcome.next.inj (hidle.symm.trans hstep)
  exact hread

/-! ### The instruction a cycle runs -/

/-- A phase that answers a next state hands it on. -/
theorem andThen_of_eq_next {r : StepResult} {s : State} (h : r = .next s) (f : State → StepResult) :
    andThen r f = f s := by
  rw [h, andThen_next]

/-- An access or a data-type byte that decodes runs its instruction. -/
theorem runAt_of_decode {e : Site} {i : Instr} (h : decode e = .ok i) (s : State) : runAt e s = exec i s := by
  simp only [runAt, h]

/-- The phases before P3, when there is no Read. -/
theorem beforeWrite_of_no_read {i : CycleIn} (o : CycleOut) (s : State) (hop : ∀ w, i.busOp ≠ .read w) :
    beforeWrite i o s = .next (sendPhase i s.tx.active (tickPhase i { s with out := o })) := by
  unfold beforeWrite
  cases hb : i.busOp with
  | read w => exact absurd hb (hop w)
  | idle => rfl
  | write w d => rfl

/-- A step without reset whose outputs have values. -/
theorem step_eq {s : State} {o : CycleOut} (hr : (nextInput s).rst = false) (ho : portOutputs s = some o) :
    step s = andThen (beforeWrite (nextInput s) o (takeInput s)) fun t =>
      andThen (writePhase (nextInput s).busOp t) (afterWrite (nextInput s) s.slot.full) := by
  have ho' : portOutputs (takeInput s) = some o := ho
  simp only [step, cycle, hr, ho', Bool.false_eq_true, if_false, takeInput_slot]

/-- Settles O50: P3 runs a Write's instruction, and the start state a Read's. -/
theorem stepRunsDecodedAccess : Obligations.StepRunsDecodedAccess := by
  intro s u i o hr ho hdec
  refine ⟨fun w d hop hexec => ?_, fun w hop hexec => ?_⟩
  · have hwrite := (runAt_of_decode (hop ▸ hdec) _).trans hexec
    rw [step_eq hr ho, beforeWrite_of_no_read o _ (by simp [hop]), andThen_next, hop]
    exact andThen_of_eq_next hwrite _
  · have hread := (runAt_of_decode (hop ▸ hdec) _).trans hexec
    have hbefore : beforeWrite (nextInput s) o (takeInput s) =
        .next (sendPhase (nextInput s) s.tx.active (tickPhase (nextInput s) u)) := by
      rw [beforeWrite, hop]
      exact andThen_of_eq_next hread _
    rw [step_eq hr ho, hbefore, andThen_next, hop]
    rfl

/-- P5 with a data-type byte that is accepted runs the row of that byte (41_deframer.md R146). -/
theorem receivePhase_dataType {i : CycleIn} {r : Instr} {s : State} (hvalid : i.rxValid = true)
    (hstate : s.df.state = .readingHeader) (hcnt : s.df.hcnt = 3) (hpend : s.df.pend = false)
    (hbyte : i.rxByte ≠ SYNC) (hdec : decode (.dataType i.rxByte .typed) = .ok r) :
    receivePhase i false s = exec r s := by
  have haccept : accept i.rxByte s = exec r s := by
    simp only [accept, hstate, hcnt, lt_irrefl, if_false, runAt_of_decode hdec]
  simp only [receivePhase, hvalid, dfStep, hstate, hpend, decide_eq_false hbyte, Bool.not_false, Bool.and_self,
    if_true, haccept]

/-- Settles O52: the phases before P5 leave the deframer alone, and there the byte is accepted as the data type. -/
theorem stepRunsOfferedDataType : Obligations.StepRunsOfferedDataType := by
  intro s i o hr ho hop hvalid hslot hstate hcnt hpend hbyte hdec
  have hreceive := fun (t : State) (hdf : t.df = s.df) =>
    receivePhase_dataType (s := t) hvalid (hdf ▸ hstate) (hdf ▸ hcnt) (hdf ▸ hpend) hbyte hdec
  rw [step_eq hr ho, beforeWrite_of_no_read o _ (by simp [hop]), andThen_next, hop, hslot]
  show afterWrite _ _ _ = _
  rw [afterWrite, hreceive _ (by simp)]
  rfl

end Sys2Proof.Machine
end

section
/-! SUPPORT. The register map: which fields a word shows, and which a write reaches. -/

namespace Sys2Proof.Machine

/-! ### Packed words -/

/-- A one-bit field read as a bit. -/
theorem flag_getLsbD_zero (b : Bool) : (flag b).getLsbD 0 = b := by
  cases b <;> rfl

/-- The kind bit is 1 for TC alone (R30). -/
theorem Kind.bit_getLsbD_zero (k : Kind) : k.bit.getLsbD 0 = decide (k = .tc) := by
  cases k <;> rfl

/-- The bytes of a big-endian word, most significant first (R13). -/
theorem be32_bytes (b0 b1 b2 b3 : Byte) :
    (be32 b0 b1 b2 b3).extractLsb' 24 8 = b0 ∧ (be32 b0 b1 b2 b3).extractLsb' 16 8 = b1 ∧
      (be32 b0 b1 b2 b3).extractLsb' 8 8 = b2 ∧ (be32 b0 b1 b2 b3).extractLsb' 0 8 = b3 := by
  simp only [be32, BitVec.extractLsb'_append_eq_of_le, BitVec.extractLsb'_append_eq_right,
    Nat.reduceSub, Nat.reduceLeDiff, BitVec.extractLsb'_eq_self, le_refl, and_self]

/-- A word is the big-endian word of its own bytes (R13). -/
theorem be32_extract (d : Word) :
    be32 (d.extractLsb' 24 8) (d.extractLsb' 16 8) (d.extractLsb' 8 8) (d.extractLsb' 0 8) = d := by
  refine BitVec.eq_of_getLsbD_eq fun i hi => ?_
  simp only [be32, BitVec.getLsbD_append, BitVec.getLsbD_extractLsb']
  split_ifs with h0 h1 h2
  · rw [decide_eq_true h0, Bool.true_and, Nat.zero_add]
  · rw [decide_eq_true h1, Bool.true_and, show 8 + (i - 8) = i by omega]
  · rw [decide_eq_true h2, Bool.true_and, show 16 + (i - 8 - 8) = i by omega]
  · rw [decide_eq_true (by omega), Bool.true_and, show 24 + (i - 8 - 8 - 8) = i by omega]

/-- A packed word's bits: each field's own, at the place the fields below it leave (R40). -/
theorem statusWord_bits (s : State) :
    (statusWord s).getLsbD 2 = s.df.pend ∧ (statusWord s).getLsbD 3 = s.slot.full ∧
    (statusWord s).getLsbD 4 = s.tx.active ∧ (statusWord s).getLsbD 5 = s.tx.esc ∧
    (statusWord s).getLsbD 6 = s.sch.active ∧ (statusWord s).getLsbD 7 = s.sch.tickPend ∧
    (statusWord s).getLsbD 8 = s.flt.pend ∧ (statusWord s).getLsbD 9 = s.flt.code ∧
    (statusWord s).getLsbD 10 = irqLevel s := by
  simp only [statusWord, BitVec.getLsbD_append, Nat.reduceLT, Nat.reduceSub, if_false, if_true, flag_getLsbD_zero,
    and_self]

theorem statusWord_state (s : State) : (statusWord s).extractLsb' 0 2 = s.df.state.bits :=
  BitVec.extractLsb'_append_eq_right

theorem statusWord_high (s : State) : (statusWord s).extractLsb' 11 21 = 0#21 := by
  simp only [statusWord, BitVec.extractLsb'_append_eq_of_le, Nat.reduceSub, Nat.reduceLeDiff, le_refl,
    BitVec.extractLsb'_eq_self]

/-- Settles O16: STATUS is its packed word, a write to it stores nothing, and every field is 0 after reset. -/
theorem statusFields : Obligations.StatusFields := by
  intro s
  obtain ⟨h2, h3, h4, h5, h6, h7, h8, h9, h10⟩ := statusWord_bits s
  exact ⟨(statusWord_state s).trans (by cases s.df.state <;> rfl), h2, h3, h4, h5, h6, h7, h8, h9,
    h10.trans (irqLevel_eq s), statusWord_high s, fun _ => rfl, rfl⟩

theorem txStatusWord_fields (s : State) :
    (txStatusWord s).extractLsb' 0 8 = s.tx.escCnt ∧ (txStatusWord s).extractLsb' 8 8 = BitVec.ofNat 8 s.tx.idx ∧
      (txStatusWord s).extractLsb' 16 8 = s.tx.dtype ∧ (txStatusWord s).extractLsb' 24 8 = 0#8 := by
  simp only [txStatusWord, BitVec.extractLsb'_append_eq_of_le, BitVec.extractLsb'_append_eq_right,
    Nat.reduceSub, Nat.reduceLeDiff, BitVec.extractLsb'_eq_self, le_refl, and_self]

theorem dfStatusWord_fields (s : State) :
    (dfStatusWord s).extractLsb' 0 3 = BitVec.ofNat 3 s.df.hcnt ∧ (dfStatusWord s).getLsbD 3 = false ∧
      (dfStatusWord s).extractLsb' 4 3 = BitVec.ofNat 3 s.df.lcnt ∧ (dfStatusWord s).getLsbD 7 = false ∧
      (dfStatusWord s).extractLsb' 8 8 = s.df.dtype ∧ (dfStatusWord s).extractLsb' 16 16 = 0#16 := by
  simp only [dfStatusWord, BitVec.extractLsb'_append_eq_of_le, BitVec.extractLsb'_append_eq_right,
    BitVec.getLsbD_append, Nat.reduceLT, Nat.reduceSub, Nat.reduceLeDiff, BitVec.extractLsb'_eq_self,
    le_refl, if_false, if_true, BitVec.getLsbD_zero, and_self]

theorem evqStatusWord_fields (s : State) :
    (evqStatusWord s).extractLsb' 0 16 = BitVec.ofNat 16 s.evq.length ∧
      (evqStatusWord s).extractLsb' 16 16 = 0#16 :=
  ⟨BitVec.extractLsb'_append_eq_right, BitVec.extractLsb'_append_eq_left⟩

/-- The kind bit of a data type: set for the two telecommand types (R99). -/
theorem kindOf_bit (t : Byte) :
    (match kindOf t with | some k => k.bit | none => 0#1).getLsbD 0 = decide (t = 1#8 ∨ t = 2#8) := by
  revert t; decide

theorem schInfoWord_fields (s : State) :
    (schInfoWord s).extractLsb' 0 8 = s.sch.dtype ∧
      (schInfoWord s).getLsbD 8 = decide (s.sch.dtype = 1#8 ∨ s.sch.dtype = 2#8) ∧
      (schInfoWord s).extractLsb' 9 23 = 0#23 := by
  obtain ⟨b, hword, hb⟩ : ∃ b : BitVec 1, schInfoWord s = 0#23 ++ b ++ s.sch.dtype ∧
      b.getLsbD 0 = decide (s.sch.dtype = 1#8 ∨ s.sch.dtype = 2#8) := ⟨_, rfl, kindOf_bit s.sch.dtype⟩
  simp only [hword, ← hb, BitVec.extractLsb'_append_eq_of_le, BitVec.extractLsb'_append_eq_right,
    BitVec.getLsbD_append, Nat.reduceLT, Nat.reduceSub, Nat.reduceLeDiff, BitVec.extractLsb'_eq_self, le_refl,
    if_false, if_true, and_self]

theorem regStatusWord_fields (s : State) :
    (regStatusWord s).extractLsb' 0 16 = BitVec.ofNat 16 s.reg.length ∧
      (regStatusWord s).extractLsb' 16 16 = BitVec.ofNat 16 (s.reg.filter (·.expired)).length :=
  ⟨BitVec.extractLsb'_append_eq_right,
    by rw [← List.countP_eq_length_filter]; exact BitVec.extractLsb'_append_eq_left⟩

theorem evtInfoWord_fields (h : Event) :
    (evtInfoWord h).extractLsb' 0 8 = h.code ∧ (evtInfoWord h).getLsbD 8 = h.matched ∧
      (evtInfoWord h).getLsbD 9 = decide (h.kind = .tc) ∧ (evtInfoWord h).extractLsb' 10 22 = 0#22 := by
  simp only [evtInfoWord, BitVec.extractLsb'_append_eq_of_le, BitVec.extractLsb'_append_eq_right,
    BitVec.getLsbD_append, Nat.reduceLT, Nat.reduceSub, Nat.reduceLeDiff, BitVec.extractLsb'_eq_self,
    le_refl, if_false, if_true, flag_getLsbD_zero, Kind.bit_getLsbD_zero, and_self]

theorem entInfoWord_fields (e : Entry) :
    (entInfoWord e).getLsbD 0 = true ∧ (entInfoWord e).getLsbD 1 = decide (e.kind = .tc) ∧
      (entInfoWord e).getLsbD 2 = e.expired ∧ (entInfoWord e).extractLsb' 3 29 = 0#29 := by
  simp only [entInfoWord, BitVec.extractLsb'_append_eq_of_le, BitVec.getLsbD_append, Nat.reduceLT, Nat.reduceSub,
    Nat.reduceLeDiff, BitVec.extractLsb'_eq_self, le_refl, if_false, if_true, flag_getLsbD_zero,
    Kind.bit_getLsbD_zero, and_self, and_true]
  rfl

/-- Settles O17, word by word of the map. -/
theorem packedRegisterFields : Obligations.PackedRegisterFields := by
  intro s
  refine ⟨txStatusWord_fields s, dfStatusWord_fields s, be32_bytes _ _ _ _, evqStatusWord_fields s,
    schInfoWord_fields s, regStatusWord_fields s, fun k => ?_, rfl, rfl, rfl⟩
  fin_cases k <;> rfl

/-! ### The windows -/

theorem headField_nil {s : State} (h : s.evq = []) (f : Event → Word) : headField s f = 0 := by
  rw [headField, h]

theorem headField_cons {s : State} {e : Event} {es : List Event} (h : s.evq = e :: es) (f : Event → Word) :
    headField s f = f e := by
  rw [headField, h]

theorem entField_past {s : State} (h : s.reg.length ≤ s.ctl.regSel.toNat) (f : Entry → Word) :
    entField s f = 0 := by
  rw [entField, List.getElem?_eq_none h]

theorem entField_selected {s : State} {e : Entry} (h : s.reg[s.ctl.regSel.toNat]? = some e) (f : Entry → Word) :
    entField s f = f e := by
  rw [entField, h]

/-- Settles O18: an empty queue or a selection past the registry reads 0; else the window is its entry's word. -/
theorem windowsShowHeadAndSelectedEntry : Obligations.WindowsShowHeadAndSelectedEntry := by
  intro s
  refine ⟨fun hempty k => ?_, fun h es hhead => ?_, fun hpast k => ?_, fun e hsel => ?_⟩
  · fin_cases k <;> exact headField_nil hempty _
  · obtain ⟨hcode, hmatched, hkind, hhigh⟩ := evtInfoWord_fields h
    rw [show regRead s 18#6 = evtInfoWord h from headField_cons hhead _]
    refine ⟨hcode, hmatched, hkind, hhigh, headField_cons hhead _, fun k => ?_⟩
    fin_cases k <;> exact headField_cons hhead _
  · fin_cases k <;> exact entField_past hpast _
  · obtain ⟨hvalid, hkind, hexpired, hhigh⟩ := entInfoWord_fields e
    rw [show regRead s 29#6 = entInfoWord e from entField_selected hsel _]
    exact ⟨hvalid, hkind, hexpired, hhigh, entField_selected hsel _, entField_selected hsel _⟩

/-! ### Writes -/

/-- The four bytes a payload word is stored in, most significant first (R45). -/
theorem setPayWord_bytes (p : Pay) (k : Fin 3) (d : Word) :
    (setPayWord p k d)[4 * k.val] = d.extractLsb' 24 8 ∧ (setPayWord p k d)[4 * k.val + 1] = d.extractLsb' 16 8 ∧
      (setPayWord p k d)[4 * k.val + 2] = d.extractLsb' 8 8 ∧
      (setPayWord p k d)[4 * k.val + 3] = d.extractLsb' 0 8 := by
  simp [setPayWord]

/-- A payload word stored leaves the other bytes. -/
theorem setPayWord_other (p : Pay) (k : Fin 3) (d : Word) (i : Fin 12)
    (hi : i.val < 4 * k.val ∨ 4 * k.val + 4 ≤ i.val) : (setPayWord p k d)[i] = p[i] := by
  simp only [setPayWord, Fin.getElem_fin, Vector.getElem_set]
  rw [if_neg (by omega), if_neg (by omega), if_neg (by omega), if_neg (by omega)]

/-- A stored payload word reads back. -/
theorem payWord_setPayWord (p : Pay) (k : Fin 3) (d : Word) : payWord (setPayWord p k d) k = d := by
  obtain ⟨h0, h1, h2, h3⟩ := setPayWord_bytes p k d
  rw [payWord, h0, h1, h2, h3, be32_extract]

/-- A write to ARG_PAYLOADk stores one payload word (R45). -/
theorem exec_wr_argPayload (k : Fin 3) (d : Word) (s : State) :
    exec (.wr (BitVec.ofNat 6 (6 + k.val)) d) s =
      .next { s with ctl := { s.ctl with argPay := setPayWord s.ctl.argPay k d } } := by
  fin_cases k <;> rfl

/-- A write to a word that is not writable stores nothing (R56). -/
theorem regStore_of_not_writable {w : WordIdx} (hw : w ∉ [0#6, 4#6, 5#6, 6#6, 7#6, 8#6, 28#6]) (d : Word)
    (s : State) : regStore w d s = s := by
  have hidx : ∀ n ∈ [0, 4, 5, 6, 7, 8, 28], w.toNat ≠ n := by
    rintro n hn rfl
    exact hw (by simpa using List.mem_map_of_mem (f := BitVec.ofNat 6) hn)
  unfold regStore
  split
  case h_8 => rfl
  all_goals
    rename_i h
    exact absurd h (hidx _ (by decide))

/-- Settles O19: each writable word has its own store, and any other word but CMD has none. -/
theorem writesReachOnlyWritableFields : Obligations.WritesReachOnlyWritableFields := by
  intro d s
  refine ⟨rfl, rfl, rfl, fun k => ?_, rfl, fun w hw => ?_⟩
  · obtain ⟨h0, h1, h2, h3⟩ := setPayWord_bytes s.ctl.argPay k d
    exact ⟨_, exec_wr_argPayload k d s, h0, h1, h2, h3, setPayWord_other _ k d⟩
  · have hcmd : w ≠ cmdIdx := fun h => hw (by simp [h, cmdIdx])
    have hstored : w ∉ [0#6, 4#6, 5#6, 6#6, 7#6, 8#6, 28#6] := fun h => hw (List.Sublist.mem h (by decide))
    rw [exec, execWr, if_neg hcmd, regStore_of_not_writable hstored]

/-- One bit kept of a word. -/
theorem flag_zeroExtend (d : Word) : (flag (d.getLsbD 0)).zeroExtend 32 = d &&& 0x00000001#32 :=
  BitVec.and_one_eq_setWidth_ofBool_getLsbD.symm

/-- The low byte kept of a word. -/
theorem lowByte_zeroExtend (d : Word) : (d.extractLsb' 0 8).zeroExtend 32 = d &&& 0x000000FF#32 := by
  have hmask : d.toNat &&& 255 = d.toNat % 256 := Nat.and_two_pow_sub_one_eq_mod d.toNat 8
  have hfits : d.toNat % 256 % 4294967296 = d.toNat % 256 := by omega
  exact BitVec.eq_of_toNat_eq (by simp [hmask, hfits])

/-- Settles O20: what is stored reads back, masked to the field's width, and payload words are big-endian. -/
theorem writtenBitsReadBack : Obligations.WrittenBitsReadBack := by
  refine ⟨fun d s => ⟨⟨_, rfl, flag_zeroExtend d⟩, fun w hw => ?_, ⟨_, rfl, lowByte_zeroExtend d⟩,
    ⟨_, rfl, payWord_setPayWord _ 0 d⟩, fun k => ?_⟩, fun p => ⟨rfl, rfl⟩⟩
  · simp only [List.mem_cons, List.not_mem_nil, or_false] at hw
    rcases hw with rfl | rfl | rfl | rfl | rfl
    · exact ⟨_, rfl, rfl⟩
    · exact ⟨_, rfl, rfl⟩
    · exact ⟨_, rfl, payWord_setPayWord _ 0 d⟩
    · exact ⟨_, rfl, payWord_setPayWord _ 1 d⟩
    · exact ⟨_, rfl, payWord_setPayWord _ 2 d⟩
  · fin_cases k <;> rfl

end Sys2Proof.Machine
end

section
/-! SUPPORT. The event queue over a cycle: which phases leave it alone, the one command that takes from it, and the
three producers that append to it. -/

namespace Sys2Proof.Machine

/-! ### The word of EVT_POP -/

/-- A command word is its four fields (30_encoding.md R100). -/
theorem command_fields (d : Word) : cmdHigh d ++ cmdType d ++ cmdReserved d ++ cmdOp d = d := by
  refine BitVec.eq_of_getLsbD_eq fun i hi => ?_
  simp only [cmdHigh, cmdType, cmdReserved, cmdOp, BitVec.getLsbD_append, BitVec.getLsbD_extractLsb']
  split_ifs with hop hres htype
  · rw [decide_eq_true hop, Bool.true_and, Nat.zero_add]
  · rw [decide_eq_true hres, Bool.true_and, show 4 + (i - 4) = i by omega]
  · rw [decide_eq_true htype, Bool.true_and, show 8 + (i - 4 - 4) = i by omega]
  · rw [decide_eq_true (by omega), Bool.true_and, show 16 + (i - 4 - 4 - 8) = i by omega]

/-- A command that takes no TYPE is read from a word whose TYPE is 0; with another TYPE the word is BAD_CMD. -/
theorem noType_cases (d : Word) (i : Instr) : cmdType d = 0 ∧ noType d i = i ∨ noType d i = .badCmd d := by
  unfold noType
  split_ifs with h
  · exact .inl ⟨h, rfl⟩
  · exact .inr rfl

/-! ### What leaves the queue alone -/

/-- The instruction leaves the event queue as it is. -/
def KeepsQueue (i : Instr) : Prop := ∀ s u : State, exec i s = .next u → u.evq = s.evq

@[simp] theorem registerRequest_evq (t : Byte) (p : Pay) (d : Word) (s : State) :
    (registerRequest t p d s).evq = s.evq := by
  rw [registerRequest_eq]

theorem keepsQueue_nop : KeepsQueue .nop := by rintro s u ⟨⟩; rfl
theorem keepsQueue_schedStop : KeepsQueue .schedStop := by rintro s u ⟨⟩; rfl
theorem keepsQueue_clrCnt : KeepsQueue .clrCnt := by rintro s u ⟨⟩; rfl
theorem keepsQueue_badCmd (d : Word) : KeepsQueue (.badCmd d) := by rintro s u ⟨⟩; rfl

theorem keepsQueue_send (t : Byte) : KeepsQueue (.send t) := by
  rintro s u ⟨⟩
  split_ifs <;> simp

theorem keepsQueue_schedStart (t : Byte) : KeepsQueue (.schedStart t) := by
  rintro s u ⟨⟩
  split_ifs
  · rfl
  · split <;> rfl

theorem keepsQueue_schedAdjust : KeepsQueue .schedAdjust := by
  rintro s u ⟨⟩
  split_ifs
  · rfl
  · split <;> rfl

theorem keepsQueue_noType (d : Word) {i : Instr} (h : KeepsQueue i) : KeepsQueue (noType d i) := by
  rcases noType_cases d i with ⟨-, heq⟩ | heq <;> rw [heq]
  · exact h
  · exact keepsQueue_badCmd d

/-- Only the word 5 is a command that touches the event queue (R101, 45_commands.md R241). -/
theorem decodeCommand_evtPop_or_keepsQueue (d : Word) :
    d = 0x00000005#32 ∧ decodeCommand d = .evtPop ∨ KeepsQueue (decodeCommand d) := by
  unfold decodeCommand
  split_ifs with hzero
  · split
    · exact .inr (keepsQueue_noType d keepsQueue_nop)
    · exact .inr (keepsQueue_send _)
    · exact .inr (keepsQueue_schedStart _)
    · exact .inr (keepsQueue_noType d keepsQueue_schedAdjust)
    · exact .inr (keepsQueue_noType d keepsQueue_schedStop)
    · rename_i hop
      rcases noType_cases d .evtPop with ⟨htype, heq⟩ | heq <;> rw [heq]
      · obtain ⟨hhigh, hres⟩ := hzero
        have hop' : cmdOp d = 0x5#4 := BitVec.eq_of_toNat_eq hop
        refine .inl ⟨?_, rfl⟩
        rw [← command_fields d, hhigh, htype, hres, hop']
        rfl
      · exact .inr (keepsQueue_badCmd d)
    · exact .inr (keepsQueue_noType d keepsQueue_clrCnt)
    · exact .inr (keepsQueue_badCmd d)
  · exact .inr (keepsQueue_badCmd d)

/-- EVT_POP takes the head, if there is one (R241). -/
theorem exec_evtPop_evq {s u : State} (h : exec .evtPop s = .next u) : u.evq = s.evq.tail := by
  obtain rfl := Host.Outcome.next.inj h
  split_ifs with hempty
  · rw [List.isEmpty_iff] at hempty
    simp [hempty]
  · rfl

/-- P3 takes the queue's head when it writes EVT_POP, and leaves the queue alone otherwise. -/
theorem writePhase_evq {op : BusOp} {s u : State} (h : writePhase op s = .next u) :
    op = .write 2#6 0x00000005#32 ∧ u.evq = s.evq.tail ∨ u.evq = s.evq := by
  cases op with
  | idle => cases h; exact .inr rfl
  | read w => cases h; exact .inr rfl
  | write w d =>
    by_cases hw : w = cmdIdx
    · simp only [writePhase, runAt, decode, if_pos hw] at h
      rcases decodeCommand_evtPop_or_keepsQueue d with ⟨rfl, hpop⟩ | hkeep
      · rw [hpop] at h
        exact .inl ⟨by rw [hw]; rfl, exec_evtPop_evq h⟩
      · exact .inr (hkeep s u h)
    · simp only [writePhase, runAt, decode, if_neg hw, exec, execWr] at h
      obtain rfl := Host.Outcome.next.inj h
      rw [regStore_eq]
      exact .inr rfl

section
variable (i : CycleIn) (s : State)

@[simp] theorem tickPhase_evq : (tickPhase i s).evq = s.evq := by
  unfold tickPhase
  split
  · rw [schedTick_eq, regCountdown_evq]
  · rfl

@[simp] theorem sendPhase_evq (b : Bool) : (sendPhase i b s).evq = s.evq := by
  unfold sendPhase
  split
  · rw [txAdvance_eq]
  · rfl

@[simp] theorem beforeState_evq (o : CycleOut) : (beforeState i o s).evq = s.evq := by simp [beforeState]

@[simp] theorem schedService_evq : (schedService s).evq = s.evq := by rw [schedService_eq]

@[simp] theorem receiveState_evq (b : Bool) : (receiveState i b s).evq = s.evq := by
  unfold receiveState
  split
  · rw [dfState_eq]
  · rfl

@[simp] theorem faultPhase_evq : (faultPhase i s).evq = s.evq := by rw [faultPhase_eq]

/-! ### What appends to the queue -/

/-- The queue `q'` is `q` with at most one event more at its tail, and that of a code in `codes`. -/
def TakesAtMostOne (codes : List Byte) (q q' : List Event) : Prop :=
  ∃ es : List Event, q' = q ++ es ∧ es.length ≤ 1 ∧ ∀ e ∈ es, e.code ∈ codes

theorem TakesAtMostOne.refl (codes : List Byte) (q : List Event) : TakesAtMostOne codes q q :=
  ⟨[], by simp⟩

theorem TakesAtMostOne.push {codes : List Byte} {e : Event} (he : e.code ∈ codes) (q : List Event) :
    TakesAtMostOne codes q (q ++ [e]) :=
  ⟨[e], by simpa using he⟩

/-- P6 appends the event of a response frame, if any (42_dispatcher.md R178). -/
theorem dispatchState_evq : TakesAtMostOne responseTypes s.evq (dispatchState s).evq := by
  unfold dispatchState
  split
  · rcases stageState_dispatched_cases s.slot.dtype s with ⟨ht, k, heq⟩ | ⟨-, heq⟩ <;> rw [heq]
    · rcases respond_cases s s.slot.dtype k with ⟨-, heq⟩ | ⟨-, ⟨-, heq⟩ | ⟨-, heq⟩⟩ <;> rw [heq]
      · exact .refl _ _
      · exact .push ht _
      · exact .push ht _
    · exact .refl _ _
  · exact .refl _ _

/-- P8 first appends the event of an expired entry, if any (43_registry.md R198). -/
theorem timeoutPush_evq : TakesAtMostOne [0x80#8] s.evq (timeoutPush s).evq := by
  rcases timeoutPush_cases s with ⟨-, heq⟩ | ⟨e, -, -, heq⟩ <;> rw [heq]
  · exact .refl _ _
  · exact .push (List.mem_singleton.mpr rfl) _

/-- P8 then appends the event of a waiting Transport fault, if any (60_exceptions.md R267). -/
theorem faultPush_evq : TakesAtMostOne [0x81#8] s.evq (faultPush s).evq := by
  rcases faultPush_cases s with ⟨-, heq⟩ | ⟨-, -, heq⟩ <;> rw [heq]
  · exact .refl _ _
  · exact .push (List.mem_singleton.mpr rfl) _

/-- P4 to P8 append at most a frame event, then a timeout event, then a fault event (R300). -/
theorem afterState_evq (b : Bool) : ∃ frame timeout fault : List Event,
    (afterState i b s).evq = s.evq ++ frame ++ timeout ++ fault ∧
    (frame.length ≤ 1 ∧ ∀ e ∈ frame, e.code ∈ responseTypes) ∧
    (timeout.length ≤ 1 ∧ ∀ e ∈ timeout, e.code ∈ [0x80#8]) ∧
    (fault.length ≤ 1 ∧ ∀ e ∈ fault, e.code ∈ [0x81#8]) := by
  obtain ⟨frame, hframe, hframes⟩ := dispatchState_evq (receiveState i b (schedService s))
  obtain ⟨timeout, htimeout, htimeouts⟩ :=
    timeoutPush_evq (faultPhase i (dispatchState (receiveState i b (schedService s))))
  obtain ⟨fault, hfault, hfaults⟩ :=
    faultPush_evq (timeoutPush (faultPhase i (dispatchState (receiveState i b (schedService s)))))
  refine ⟨frame, timeout, fault, ?_, hframes, htimeouts, hfaults⟩
  rw [afterState, pushPhase, hfault, htimeout, faultPhase_evq, hframe, receiveState_evq, schedService_evq]

end

/-- Settles O57: P1 and P2 leave the queue alone, P3 takes at most its head, and P4 to P8 append. -/
theorem eventQueueIsFirstInFirstOut : Obligations.EventQueueIsFirstInFirstOut := by
  intro s u hrst hstep
  rcases cycle_cases hstep with ⟨hr, -⟩ | ⟨-, o, t, -, hwrite, rfl⟩
  · exact absurd (hrst.symm.trans hr) (by decide)
  obtain ⟨frame, timeout, fault, hafter, ⟨hframe, hframes⟩, ⟨htimeout, htimeouts⟩, hfault, hfaults⟩ :=
    afterState_evq (nextInput s) t (takeInput s).slot.full
  obtain ⟨popped, hpopped, hle, hpop⟩ : ∃ popped : Nat, t.evq = s.evq.drop popped ∧ popped ≤ 1 ∧
      (popped = 1 → (nextInput s).busOp = .write 2#6 0x00000005#32) := by
    rcases writePhase_evq hwrite with ⟨hop, ht⟩ | ht <;> rw [beforeState_evq, takeInput_evq] at ht
    · exact ⟨1, ht.trans List.drop_one.symm, le_rfl, fun _ => hop⟩
    · exact ⟨0, ht, zero_le_one, fun h => nomatch h⟩
  exact ⟨popped, frame, timeout, fault, hpopped ▸ hafter, hle, hpop, hframe, hframes,
    htimeout, fun e he => List.mem_singleton.mp (htimeouts e he),
    hfault, fun e he => List.mem_singleton.mp (hfaults e he)⟩

end Sys2Proof.Machine
end

section
/-! SUPPORT. A cycle without a bus access, for two states that differ in the argument registers alone. -/

namespace Sys2Proof.Machine

/-- P1, P2 and P4 to P8 of a cycle with the inputs `i`, from its start state: a cycle without a Write but for its
outputs. -/
def phasesState (i : CycleIn) (s : State) : State :=
  afterState i s.slot.full (sendPhase i s.tx.active (tickPhase i s))

theorem phasesState_withHost (c : Control) (ins : List CycleIn) (o : CycleOut) (i : CycleIn) (s : State) :
    phasesState i (s.withHost c ins o) = (phasesState i s).withHost c ins o := by
  rw [phasesState, withHost_tx, withHost_slot, beforePhases_withHost, afterState_withHost, phasesState]

/-- Without a bus access a step is its phases, with the control state carried along. -/
theorem step_eq_of_idle {s : State} {o : CycleOut} (hr : (nextInput s).rst = false)
    (hop : (nextInput s).busOp = .idle) (ho : portOutputs s = some o) :
    step s = .next ((phasesState (nextInput s) s).withHost s.ctl s.inputs.tail { o with busRdata := 0 }) := by
  have hcycle := cycle_eq_of_no_write (s := takeInput s) hr ho (by simp [hop])
  have htake : phasesState (nextInput s) (takeInput s) = _ :=
    phasesState_withHost s.ctl s.inputs.tail s.out (nextInput s) s
  rw [afterState_beforeState, hop] at hcycle
  refine hcycle.trans ?_
  rw [← phasesState, htake]
  rfl

/-- Settles O60: the phases carry the control state along unread, and the outputs show nothing of the arguments. -/
theorem argumentsAreReadOnlyByCommands : Obligations.ArgumentsAreReadOnlyByCommands := by
  intro s u timeout rate pay hrst hop hstep
  rcases cycle_cases hstep with ⟨hr, -⟩ | ⟨-, o, -, ho, -, -⟩
  · exact absurd (hrst.symm.trans hr) (by decide)
  have hother := step_eq_of_idle
    (s := s.withHost { s.ctl with argTimeout := timeout, argRate := rate, argPay := pay } s.inputs s.out) hrst hop ho
  obtain rfl := Host.Outcome.next.inj ((step_eq_of_idle hrst hop ho).symm.trans hstep)
  rw [phasesState_withHost] at hother
  exact hother

end Sys2Proof.Machine
end

section
/-! SUPPORT. The decoder and the encoder are inverse to each other on well-formed instructions: the command words, the
data-type bytes, and the bus accesses around them. -/

namespace Sys2Proof.Machine

/-! ### Command words -/

/-- The fields of an encoded command word (30_encoding.md R100). -/
theorem commandWord_fields (op : BitVec 4) (t : Byte) :
    cmdHigh (commandWord op t) = 0 ∧ cmdType (commandWord op t) = t ∧ cmdReserved (commandWord op t) = 0 ∧
      cmdOp (commandWord op t) = op := by
  simp only [cmdHigh, cmdType, cmdReserved, cmdOp, commandWord, BitVec.extractLsb'_append_eq_of_le,
    BitVec.extractLsb'_append_eq_right, Nat.reduceSub, Nat.reduceLeDiff, BitVec.extractLsb'_eq_self, le_refl,
    BitVec.ofNat_eq_ofNat, and_self]

/-- A word whose two reserved fields are 0 is the encoding of its opcode and TYPE: no bit is dropped. -/
theorem commandWord_of_reserved_zero {d : Word} (hhigh : cmdHigh d = 0) (hres : cmdReserved d = 0) :
    commandWord (cmdOp d) (cmdType d) = d := by
  have hfields := command_fields d
  rwa [hhigh, hres] at hfields

/-- What the decoder may read from a word written to CMD: BAD_CMD from an ill-formed word, and from any other a
well-formed instruction that the word encodes. -/
def ReadFromWord (d : Word) (i : Instr) : Prop :=
  wordWellFormed d = false ∧ i = .badCmd d ∨
    wordWellFormed d = true ∧ i.wellFormed = true ∧ encode i = .bus (.write cmdIdx d)

/-- An instruction is read from a word whose conditions hold if its encoding has the word's opcode and TYPE. -/
theorem readFromWord_of_encode {d : Word} {i : Instr} (hd : wordWellFormed d = true) (hi : i.wellFormed = true)
    (henc : encode i = encodeCommand (cmdOp d) (cmdType d)) : ReadFromWord d i := by
  obtain ⟨hhigh, hres, -⟩ := (wordWellFormed_iff d).mp hd
  refine .inr ⟨hd, hi, ?_⟩
  rw [henc, encodeCommand, commandWord_of_reserved_zero hhigh hres]

/-- A word that is not well formed is read as BAD_CMD (R233). -/
theorem readFromWord_badCmd {d : Word} (h : ¬wordWellFormed d = true) : ReadFromWord d (.badCmd d) :=
  .inl ⟨Bool.eq_false_of_not_eq_true h, rfl⟩

/-- A command without a TYPE is read from the one word of its opcode, and its opcode with a TYPE is BAD_CMD (R101). -/
theorem readFromWord_noType {d : Word} {i : Instr} {op : BitVec 4} (hhigh : cmdHigh d = 0) (hres : cmdReserved d = 0)
    (hop : (cmdOp d).toNat = op.toNat) (hrow : op.toNat ≤ 6 ∧ op.toNat ≠ 1 ∧ op.toNat ≠ 2)
    (hi : i.wellFormed = true) (henc : encode i = encodeCommand op 0) : ReadFromWord d (noType d i) := by
  obtain ⟨hle, hsend, hstart⟩ := hrow
  unfold noType
  split_ifs with htype
  · have hd : wordWellFormed d = true := (wordWellFormed_iff d).mpr ⟨hhigh, hres, hop ▸ hle, .inl htype⟩
    exact readFromWord_of_encode hd hi (by rw [henc, BitVec.eq_of_toNat_eq hop, htype])
  · refine readFromWord_badCmd fun hd => ?_
    obtain ⟨-, -, -, h | h | h⟩ := (wordWellFormed_iff d).mp hd
    exacts [htype h, hsend (hop ▸ h), hstart (hop ▸ h)]

/-- A command with a TYPE is read from its opcode with every TYPE (R101). -/
theorem readFromWord_typed {d : Word} {i : Instr} {op : BitVec 4} (hhigh : cmdHigh d = 0) (hres : cmdReserved d = 0)
    (hop : (cmdOp d).toNat = op.toNat) (hrow : op.toNat = 1 ∨ op.toNat = 2) (hi : i.wellFormed = true)
    (henc : encode i = encodeCommand op (cmdType d)) : ReadFromWord d i := by
  have hd : wordWellFormed d = true :=
    (wordWellFormed_iff d).mpr ⟨hhigh, hres, by omega, .inr (by omega)⟩
  exact readFromWord_of_encode hd hi (by rw [henc, BitVec.eq_of_toNat_eq hop])

/-- Every word written to CMD is read as R101 and R233 say, opcode by opcode. -/
theorem readFromWord_decodeCommand (d : Word) : ReadFromWord d (decodeCommand d) := by
  unfold decodeCommand
  split_ifs with hzero
  · obtain ⟨hhigh, hres⟩ := hzero
    split
    next hop => exact readFromWord_noType (op := 0x0#4) hhigh hres hop (by decide) rfl rfl
    next hop => exact readFromWord_typed (op := 0x1#4) hhigh hres hop (by decide) rfl rfl
    next hop => exact readFromWord_typed (op := 0x2#4) hhigh hres hop (by decide) rfl rfl
    next hop => exact readFromWord_noType (op := 0x3#4) hhigh hres hop (by decide) rfl rfl
    next hop => exact readFromWord_noType (op := 0x4#4) hhigh hres hop (by decide) rfl rfl
    next hop => exact readFromWord_noType (op := 0x5#4) hhigh hres hop (by decide) rfl rfl
    next hop => exact readFromWord_noType (op := 0x6#4) hhigh hres hop (by decide) rfl rfl
    next =>
      refine readFromWord_badCmd fun hd => ?_
      obtain ⟨-, -, hle, -⟩ := (wordWellFormed_iff d).mp hd
      simp only [imp_false] at *
      omega
  · refine readFromWord_badCmd fun hd => ?_
    obtain ⟨hhigh, hres, -⟩ := (wordWellFormed_iff d).mp hd
    exact hzero ⟨hhigh, hres⟩

/-- The instruction read from a word is well formed and the word encodes it. -/
theorem decodeCommand_sound (d : Word) :
    (decodeCommand d).wellFormed = true ∧ encode (decodeCommand d) = .bus (.write cmdIdx d) := by
  rcases readFromWord_decodeCommand d with ⟨hbad, heq⟩ | ⟨-, hsound⟩
  · rw [heq, Instr.wellFormed, hbad, encode]
    exact ⟨rfl, rfl⟩
  · exact hsound

/-- An ill-formed word is read as BAD_CMD (45_commands.md R233). -/
theorem decodeCommand_eq_badCmd {d : Word} (h : wordWellFormed d = false) : decodeCommand d = .badCmd d := by
  rcases readFromWord_decodeCommand d with ⟨-, heq⟩ | ⟨hgood, -⟩
  · exact heq
  · exact absurd (hgood.symm.trans h) (by decide)

/-- SEND is read back from its word with every TYPE (R101). -/
theorem decodeCommand_send (t : Byte) : decodeCommand (commandWord 0x1#4 t) = .send t := by
  obtain ⟨hhigh, htype, hres, hop⟩ := commandWord_fields 0x1#4 t
  rw [decodeCommand, if_pos ⟨hhigh, hres⟩, hop, htype]
  rfl

/-- SCHED_START is read back from its word with every TYPE (R101). -/
theorem decodeCommand_schedStart (t : Byte) : decodeCommand (commandWord 0x2#4 t) = .schedStart t := by
  obtain ⟨hhigh, htype, hres, hop⟩ := commandWord_fields 0x2#4 t
  rw [decodeCommand, if_pos ⟨hhigh, hres⟩, hop, htype]
  rfl

/-! ### Data-type bytes -/

/-- The FRAME row read from a data-type byte is well formed and has that byte and that stage (R93). -/
theorem decodeDataType_sound (t : Byte) (st : FrameStage) :
    (decodeDataType t st).wellFormed = true ∧ encode (decodeDataType t st) = .dataType t st := by
  have hcode : ∀ c : Byte, t.toNat = c.toNat → Site.dataType c st = .dataType t st :=
    fun c h => by rw [BitVec.eq_of_toNat_eq h]
  unfold decodeDataType
  split
  next h => exact ⟨rfl, hcode 1#8 h⟩
  next h => exact ⟨rfl, hcode 2#8 h⟩
  next h => exact ⟨rfl, hcode 3#8 h⟩
  next h => exact ⟨rfl, hcode 4#8 h⟩
  next h => exact ⟨rfl, hcode 5#8 h⟩
  next h => exact ⟨rfl, hcode 6#8 h⟩
  next h => exact ⟨rfl, hcode 7#8 h⟩
  next =>
    refine ⟨decide_eq_true ?_, rfl⟩
    simp only [imp_false] at *
    bv_omega

/-- A byte that is no data type is read as INVALID_DATA_TYPE (R93). -/
theorem decodeDataType_eq_invalid {t : Byte} (h : t = 0#8 ∨ 7#8 < t) (st : FrameStage) :
    decodeDataType t st = .invalidDataType t st := by
  unfold decodeDataType
  split
  case h_8 => rfl
  all_goals bv_omega

/-! ### Places -/

/-- Whatever is read from a place is well formed, and the place is its encoding. -/
theorem decode_sound {e : Site} {i : Instr} (h : decode e = .ok i) : i.wellFormed = true ∧ encode i = e := by
  cases e with
  | bus op =>
    cases op with
    | idle => exact nomatch h
    | read w =>
      obtain rfl := Except.ok.inj h
      exact ⟨rfl, rfl⟩
    | write w d =>
      obtain rfl := Except.ok.inj h
      split_ifs with hcmd
      · rw [hcmd]
        exact decodeCommand_sound d
      · exact ⟨decide_eq_true hcmd, rfl⟩
  | dataType t st =>
    obtain rfl := Except.ok.inj h
    exact decodeDataType_sound t st

/-- A well-formed instruction is read back from its encoding. -/
theorem decode_encode {i : Instr} (h : i.wellFormed = true) : decode (encode i) = .ok i := by
  cases i with
  | nop | schedAdjust | schedStop | evtPop | clrCnt => rfl
  | send t => exact congrArg _ (decodeCommand_send t)
  | schedStart t => exact congrArg _ (decodeCommand_schedStart t)
  | badCmd d => exact congrArg _ (decodeCommand_eq_badCmd (by simpa [Instr.wellFormed] using h))
  | rd w => rfl
  | wr w d => exact congrArg _ (if_neg (of_decide_eq_true h))
  | telecommandRequest | telecommandResponse | telemetryData | telemetryRequest | telemetryRequestRejection
  | fileUpload | fileDownload => rfl
  | invalidDataType t st => exact congrArg _ (decodeDataType_eq_invalid (of_decide_eq_true h) st)

/-- Settles O1: what is read encodes back to its place, and what is well formed is read back from its encoding. -/
theorem decodeInvertsEncode : Obligations.DecodeInvertsEncode := by
  intro i e
  refine ⟨decode_sound, ?_⟩
  rintro ⟨hi, rfl⟩
  exact decode_encode hi

/-- A table word placed where an instruction's encoding stands is read as that instruction. -/
theorem decodeTableWord_of_encode {nbits w : Nat} {i : Instr} (hi : i.wellFormed = true)
    (h : tableSite nbits w = some (encode i)) : decodeTableWord nbits w = some i := by
  rw [decodeTableWord, h]
  simp only [decode_encode hi, Except.toOption]

/-- Settles O2: each word is the encoding of its row. -/
theorem tableWordsDecode : Obligations.TableWordsDecode :=
  ⟨decodeTableWord_of_encode rfl rfl, decodeTableWord_of_encode rfl rfl, decodeTableWord_of_encode rfl rfl,
    decodeTableWord_of_encode rfl rfl, decodeTableWord_of_encode (by decide) rfl, decodeTableWord_of_encode rfl rfl,
    decodeTableWord_of_encode (by decide) rfl⟩

end Sys2Proof.Machine
end

section
/-! SUPPORT. Payload sizes, the payload snapshot, and a frame's bytes on the wire. -/

namespace Sys2Proof.Machine

/-! ### Sizes -/

/-- The table of payload sizes (30_encoding.md R94), as the list of its rows. -/
theorem size_eq_some_iff (t : Byte) (n : Nat) :
    size t = some n ↔ (t, n) ∈ [(1#8, 12), (2#8, 5), (3#8, 12), (4#8, 4), (7#8, 5)] := by
  simp only [List.mem_cons, Prod.mk.injEq, List.not_mem_nil, or_false, ← BitVec.toNat_inj, BitVec.toNat_ofNat]
  unfold size
  split
  case h_6 =>
    simp only [imp_false] at *
    simp only [reduceCtorEq, false_iff]
    omega
  all_goals
    rename_i htype
    simp [htype, eq_comm]

/-- Settles O7: the size table row by row, and the snapshot byte by byte. -/
theorem snapshotKeepsSizeBytes : Obligations.SnapshotKeepsSizeBytes := by
  refine ⟨size_eq_some_iff, fun t p n hn i => ?_⟩
  simp [snapshot, firstBytes, hn]

/-- No payload is shorter than the identifier (R94, R98). -/
theorem four_le_size {t : Byte} {n : Nat} (h : size t = some n) : 4 ≤ n := by
  have hrow := (size_eq_some_iff t n).mp h
  simp only [List.mem_cons, Prod.mk.injEq, List.not_mem_nil, or_false] at hrow
  omega

/-! ### Stuffing -/

/-- The header bytes of a raw frame after its sync byte: reserved bytes, type and length (40_encoder.md R121). -/
def headerTail (t : Byte) (n : Nat) : List Byte := RESV ++ [t] ++ be32Bytes (BitVec.ofNat 32 n)

/-- A raw frame is the sync byte, the rest of the header and the payload (R121). -/
theorem rawFrame_of_size {t : Byte} {n : Nat} (h : size t = some n) (p : Pay) :
    rawFrame t p = some (SYNC :: (headerTail t n ++ p.toList.take n)) := by
  simp [rawFrame, h, headerTail]

/-- The header holds no second sync byte (R124). -/
theorem sync_not_mem_headerTail {t : Byte} {n : Nat} (h : size t = some n) : SYNC ∉ headerTail t n := by
  have hrows : ∀ r ∈ [(1#8, 12), (2#8, 5), (3#8, 12), (4#8, 4), (7#8, 5)], SYNC ∉ headerTail r.1 r.2 := by decide
  exact hrows (t, n) ((size_eq_some_iff t n).mp h)

/-- Bytes without a sync byte go on the wire as they are (30_encoding.md R97). -/
theorem flatMap_stuffByte_of_not_mem {bs : List Byte} (h : SYNC ∉ bs) : bs.flatMap stuffByte = bs := by
  induction bs with
  | nil => rfl
  | cons b bs ih =>
    have hb : b ≠ SYNC := (List.ne_of_not_mem_cons h).symm
    rw [List.flatMap_cons, ih (List.not_mem_of_not_mem_cons h), stuffByte, if_neg hb]
    rfl

/-- Stuffing adds one byte for each sync byte (R97). -/
theorem length_flatMap_stuffByte (bs : List Byte) : (bs.flatMap stuffByte).length = bs.length + bs.count SYNC := by
  induction bs with
  | nil => rfl
  | cons b bs ih =>
    rw [List.flatMap_cons, List.length_append, ih, List.length_cons]
    by_cases hb : b = SYNC
    · rw [hb, List.count_cons_self, stuffByte, if_pos rfl, List.length_cons, List.length_singleton]
      omega
    · rw [List.count_cons_of_ne hb, stuffByte, if_neg hb, List.length_singleton]
      omega

/-- Only the payload of a frame is stuffed (R124). -/
theorem wireFrame_of_size {t : Byte} {n : Nat} (h : size t = some n) (p : Pay) :
    wireFrame t p = some (SYNC :: (headerTail t n ++ (p.toList.take n).flatMap stuffByte)) := by
  rw [wireFrame, rawFrame_of_size h, Option.map_some, stuff, List.flatMap_append,
    flatMap_stuffByte_of_not_mem (sync_not_mem_headerTail h)]

/-- Settles O34: the sync byte, eight header bytes unstuffed, and the payload with its sync bytes doubled. -/
theorem wireLength : Obligations.WireLength := by
  intro t p n hn
  have hpay : (p.toList.take n).length = n := by
    simp [size_le hn]
  have hcount : (p.toList.take n).count SYNC ≤ n := List.count_le_length.trans_eq hpay
  have hlength : (SYNC :: (headerTail t n ++ (p.toList.take n).flatMap stuffByte)).length =
      9 + n + (p.toList.take n).count SYNC := by
    rw [List.length_cons, List.length_append, length_flatMap_stuffByte, hpay, show (headerTail t n).length = 8 from rfl]
    omega
  have hlo := four_le_size hn
  have hhi := size_le hn
  exact ⟨_, wireFrame_of_size hn p, hlength, by omega, by omega⟩

end Sys2Proof.Machine
end

section
/-! SUPPORT. The transmit engine: what one send does, the bytes a run of sends puts on the wire, and the engine in a
cycle. -/

namespace Sys2Proof.Machine

/-! ### The bytes of a frame -/

/-- The header bytes as numbers: the length is below 256, so that it fills one byte only (40_encoder.md R124). -/
theorem headerTail_eq {t : Byte} {n : Nat} (h : size t = some n) :
    headerTail t n = [0xDE#8, 0xAD#8, 0xBE#8, t, 0x00#8, 0x00#8, 0x00#8, BitVec.ofNat 8 n] := by
  have hrows : ∀ r ∈ [(1#8, 12), (2#8, 5), (3#8, 12), (4#8, 4), (7#8, 5)],
      headerTail r.1 r.2 = [0xDE#8, 0xAD#8, 0xBE#8, r.1, 0x00#8, 0x00#8, 0x00#8, BitVec.ofNat 8 r.2] := by decide
  exact hrows (t, n) ((size_eq_some_iff t n).mp h)

/-- Settles O33: the frame's bytes are known but for the payload, and the header holds no second sync byte. -/
theorem onlyPayloadIsEscaped : Obligations.OnlyPayloadIsEscaped := by
  intro t ht p
  obtain ⟨n, hn⟩ := Option.isSome_iff_exists.mp ((encodable_iff t).mpr ht)
  have hsize : n ∈ [4, 5, 12] := by
    have hrow := (size_eq_some_iff t n).mp hn
    simp only [List.mem_cons, Prod.mk.injEq, List.not_mem_nil, or_false] at hrow ⊢
    omega
  have hraw := rawFrame_of_size hn p
  have hwire := wireFrame_of_size hn p
  have hsync := sync_not_mem_headerTail hn
  rw [headerTail_eq hn] at hraw hwire hsync
  exact ⟨n, hsize, hn, hraw, fun b hb => ne_of_mem_of_not_mem hb hsync, hwire⟩

/-- A frame holds only the payload bytes a snapshot keeps (R126). -/
theorem rawFrame_snapshot (t : Byte) (p : Pay) : rawFrame t (snapshot t p) = rawFrame t p := by
  unfold rawFrame
  cases hn : size t with
  | none => rfl
  | some n =>
    have hpay : (snapshot t p).toList.take n = p.toList.take n := by
      refine List.ext_getElem (by simp) fun i hi _ => ?_
      have hlt : i < n := hi.trans_le (List.length_take_le ..)
      simp [snapshot, firstBytes, hn, hlt]
    simp only [Option.map_some, hpay]

/-- The length of a raw frame of a type whose size is known (R121). -/
theorem rawFrame_length_of_size {t : Byte} {n : Nat} {p : Pay} {raw : List Byte} (h : size t = some n)
    (hraw : rawFrame t p = some raw) : raw.length = 9 + n := by
  obtain ⟨m, hm, hlen⟩ := rawFrame_length hraw
  rw [hlen, Option.some.inj (h.symm.trans hm)]

/-! ### One send -/

section
variable {raw : List Byte} {tx : TxEngine}

/-- The byte offered, while an escape byte is pending and when none is (R127). -/
theorem txByte_of_rawFrame (h : rawFrame tx.dtype tx.pay = some raw) :
    txByte tx = if tx.esc then some SYNC else raw[tx.idx]? := by
  simp only [txByte, h]

/-- The escape byte's send completes the pair (R128). -/
theorem txNext_of_esc (h : tx.esc = true) : txNext raw tx = { tx with esc := false, idx := tx.idx + 1 } := by
  rw [txNext, if_pos h]

/-- A sync byte after the first opens an escape pair (R128). -/
theorem txNext_of_sync (h : tx.esc = false) (hpos : 1 ≤ tx.idx) (hb : raw[tx.idx]? = some SYNC) :
    txNext raw tx = { tx with esc := true, escCnt := tx.escCnt + 1 } := by
  rw [txNext, if_neg (by simp [h]), if_pos ⟨hpos, hb⟩]

/-- The first byte, or another byte than the sync byte, goes out alone (R128). -/
theorem txNext_of_plain (h : tx.esc = false) (hb : tx.idx = 0 ∨ raw[tx.idx]? ≠ some SYNC) :
    txNext raw tx = { tx with idx := tx.idx + 1 } := by
  have hsingle : ¬(1 ≤ tx.idx ∧ raw[tx.idx]? = some SYNC) := fun ⟨hpos, hsync⟩ =>
    hb.elim (Nat.ne_of_gt hpos) (· hsync)
  rw [txNext, if_neg (by simp [h]), if_neg hsingle]

/-- The bytes an engine past its first byte has still to send. -/
theorem remainingBytes_of_pos (h : rawFrame tx.dtype tx.pay = some raw) (ha : tx.active = true)
    (he : tx.esc = false) (hpos : tx.idx ≠ 0) : remainingBytes tx = (raw.drop tx.idx).flatMap stuffByte := by
  simp [remainingBytes, h, ha, he, hpos]

/-- The bytes an engine between the two bytes of an escape pair has still to send. -/
theorem remainingBytes_of_esc (h : rawFrame tx.dtype tx.pay = some raw) (ha : tx.active = true)
    (he : tx.esc = true) : remainingBytes tx = SYNC :: (raw.drop (tx.idx + 1)).flatMap stuffByte := by
  simp [remainingBytes, h, ha, he]

/-- The bytes an engine at its first byte has still to send: that byte is never doubled. -/
theorem remainingBytes_of_zero (h : rawFrame tx.dtype tx.pay = some raw) (ha : tx.active = true)
    (he : tx.esc = false) (hzero : tx.idx = 0) : remainingBytes tx = stuff raw := by
  simp [remainingBytes, h, ha, he, hzero]

/-- An engine inside its frame offers the next of the bytes it has still to send, and sending it leaves the rest. -/
theorem remainingBytes_eq_cons (h : rawFrame tx.dtype tx.pay = some raw) (ha : tx.active = true)
    (hidx : tx.idx < raw.length) :
    ∃ b, txByte tx = some b ∧ remainingBytes tx = b :: remainingBytes (txNext raw tx) := by
  have hbyte := txByte_of_rawFrame h
  have hget : raw[tx.idx]? = some raw[tx.idx] := List.getElem?_eq_getElem hidx
  have hdrop : raw.drop tx.idx = raw[tx.idx] :: raw.drop (tx.idx + 1) := List.drop_eq_getElem_cons hidx
  cases he : tx.esc with
  | true =>
    refine ⟨SYNC, by simp [hbyte, he], ?_⟩
    rw [remainingBytes_of_esc h ha he, txNext_of_esc he,
      remainingBytes_of_pos (tx := { tx with esc := false, idx := tx.idx + 1 }) h ha rfl (Nat.succ_ne_zero _)]
  | false =>
    refine ⟨raw[tx.idx], by simp [hbyte, he], ?_⟩
    have hmoved : remainingBytes { tx with idx := tx.idx + 1 } = (raw.drop (tx.idx + 1)).flatMap stuffByte :=
      remainingBytes_of_pos (tx := { tx with idx := tx.idx + 1 }) h ha he (Nat.succ_ne_zero _)
    by_cases hzero : tx.idx = 0
    · have hstuff : stuff raw = raw[tx.idx] :: (raw.drop (tx.idx + 1)).flatMap stuffByte :=
        congrArg stuff ((congrArg raw.drop hzero).symm.trans hdrop)
      rw [txNext_of_plain he (.inl hzero), remainingBytes_of_zero h ha he hzero, hstuff, hmoved]
    rw [remainingBytes_of_pos h ha he hzero, hdrop, List.flatMap_cons]
    by_cases hb : raw[tx.idx] = SYNC
    · rw [txNext_of_sync he (Nat.pos_of_ne_zero hzero) (hget.trans (congrArg some hb)), stuffByte, if_pos hb, hb,
        remainingBytes_of_esc (tx := { tx with esc := true, escCnt := tx.escCnt + 1 }) h ha rfl]
      rfl
    · have hplain : raw[tx.idx]? ≠ some SYNC := fun hs => hb (Option.some.inj (hget.symm.trans hs))
      rw [txNext_of_plain he (.inr hplain), stuffByte, if_neg hb, hmoved]
      rfl

/-- An engine that has sent all of its frame has nothing left. -/
theorem remainingBytes_at_end (h : rawFrame tx.dtype tx.pay = some raw) (ha : tx.active = true)
    (he : tx.esc = false) (hpos : tx.idx ≠ 0) (hend : tx.idx = raw.length) : remainingBytes tx = [] := by
  rw [remainingBytes_of_pos h ha he hpos, hend, List.drop_length, List.flatMap_nil]

end

/-! ### The state after a send -/

/-- `s` with the engine moved to `tx`: at the end of the frame the engine goes idle and the frame is counted. -/
def moveEngine (raw : List Byte) (tx : TxEngine) (s : State) : State :=
  if tx.idx = raw.length then { s with tx := { tx with active := false }, cnt := s.cnt.incTxFrame }
  else { s with tx := tx }

/-- A send of an engine with a frame moves the engine on (R128). -/
theorem txAdvance_eq_moveEngine {raw : List Byte} {s : State} (h : rawFrame s.tx.dtype s.tx.pay = some raw) :
    txAdvance s = moveEngine raw (txNext raw s.tx) s := by
  simp only [txAdvance, h, moveEngine]

section
variable {raw : List Byte} {tx : TxEngine}

theorem moveEngine_of_lt (h : tx.idx < raw.length) (s : State) : moveEngine raw tx s = { s with tx := tx } :=
  if_neg h.ne

theorem moveEngine_of_end (h : tx.idx = raw.length) (s : State) :
    moveEngine raw tx s = { s with tx := { tx with active := false }, cnt := s.cnt.incTxFrame } :=
  if_pos h

/-- A move forgets where the engine was before. -/
theorem txAdvance_moveEngine (h : rawFrame tx.dtype tx.pay = some raw) (hidx : tx.idx < raw.length) (s : State) :
    txAdvance (moveEngine raw tx s) = moveEngine raw (txNext raw tx) s := by
  rw [moveEngine_of_lt hidx, txAdvance_eq_moveEngine h]
  rfl

end

/-! ### A run of sends -/

/-- Sending as many bytes as `w` has sends exactly `w`, from an engine that is active before each of them, and leads
from `s` to `u`. -/
structure Sends (s : State) (w : List Byte) (u : State) : Prop where
  bytes : sentBytes w.length s = w
  active : ∀ k < w.length, (afterSends k s).tx.active = true
  after : afterSends w.length s = u

theorem Sends.nil (s : State) : Sends s [] s := ⟨rfl, fun _ hk => absurd hk (Nat.not_lt_zero _), rfl⟩

theorem Sends.cons {s u : State} {b : Byte} {w : List Byte} (ha : s.tx.active = true) (hb : txByte s.tx = some b)
    (h : Sends (txAdvance s) w u) : Sends s (b :: w) u where
  bytes := by
    rw [List.length_cons, sentBytes, hb, h.bytes]
    rfl
  active
    | 0, _ => ha
    | k + 1, hk => h.active k (Nat.lt_of_succ_lt_succ hk)
  after := h.after

/-- One send of an engine inside its frame, in front of a run of sends. -/
theorem Sends.moveEngine_cons {raw : List Byte} {tx : TxEngine} {s u : State} {b : Byte} {w : List Byte}
    (hraw : rawFrame tx.dtype tx.pay = some raw) (ha : tx.active = true) (hidx : tx.idx < raw.length)
    (hb : txByte tx = some b) (h : Sends (moveEngine raw (txNext raw tx) s) w u) :
    Sends (moveEngine raw tx s) (b :: w) u := by
  refine Sends.cons ?_ ?_ (by rwa [txAdvance_moveEngine hraw hidx])
  · rwa [moveEngine_of_lt hidx]
  · rwa [moveEngine_of_lt hidx]

/-- A raw byte after the first, in front of a run of sends: a sync byte takes two sends and is counted (R125, R128). -/
theorem Sends.stuffByte_append {raw : List Byte} {tx : TxEngine} {s u : State} {b : Byte} {w : List Byte}
    (hraw : rawFrame tx.dtype tx.pay = some raw) (ha : tx.active = true) (he : tx.esc = false) (hpos : 1 ≤ tx.idx)
    (hget : raw[tx.idx]? = some b)
    (h : Sends
      (moveEngine raw { tx with idx := tx.idx + 1, escCnt := tx.escCnt + BitVec.ofNat 8 ([b].count SYNC) } s) w u) :
    Sends (moveEngine raw tx s) (stuffByte b ++ w) u := by
  obtain ⟨hidx, -⟩ := List.getElem?_eq_some_iff.mp hget
  have hbyte : txByte tx = some b := by rw [txByte_of_rawFrame hraw, he, if_neg Bool.false_ne_true, hget]
  by_cases hb : b = SYNC
  · subst hb
    have hescape : txByte { tx with esc := true, escCnt := tx.escCnt + 1 } = some SYNC :=
      (txByte_of_rawFrame (tx := { tx with esc := true, escCnt := tx.escCnt + 1 }) hraw).trans (if_pos rfl)
    rw [stuffByte, if_pos rfl]
    refine Sends.moveEngine_cons hraw ha hidx hbyte ?_
    rw [txNext_of_sync he hpos hget]
    refine Sends.moveEngine_cons hraw ha hidx hescape ?_
    rw [txNext_of_esc rfl]
    exact he ▸ h
  · have hplain : raw[tx.idx]? ≠ some SYNC := by simp [hget, hb]
    rw [stuffByte, if_neg hb]
    refine Sends.moveEngine_cons hraw ha hidx hbyte ?_
    rw [txNext_of_plain he (.inr hplain)]
    rw [List.count_cons_of_ne hb, List.count_nil, show tx.escCnt + BitVec.ofNat 8 0 = tx.escCnt from
      BitVec.add_zero _] at h
    exact h

/-- From any raw byte after the first, the engine sends the rest of the frame with its sync bytes doubled, and counts
them (R125, R128, R129). -/
theorem sends_rest (raw bs : List Byte) (tx : TxEngine) (s : State) (hraw : rawFrame tx.dtype tx.pay = some raw)
    (ha : tx.active = true) (he : tx.esc = false) (hpos : 1 ≤ tx.idx) (hle : tx.idx ≤ raw.length)
    (hdrop : raw.drop tx.idx = bs) :
    Sends (moveEngine raw tx s) (bs.flatMap stuffByte)
      { s with
        tx :=
          { tx with
            active := false, idx := raw.length, escCnt := tx.escCnt + BitVec.ofNat 8 (bs.count SYNC) }
        cnt := s.cnt.incTxFrame } := by
  induction bs generalizing tx with
  | nil =>
    have hend : tx.idx = raw.length := Nat.le_antisymm hle (List.drop_eq_nil_iff.mp hdrop)
    rw [moveEngine_of_end hend, List.count_nil, ← hend, show tx.escCnt + BitVec.ofNat 8 0 = tx.escCnt from
      BitVec.add_zero _]
    exact Sends.nil _
  | cons b bs ih =>
    have hidx : tx.idx < raw.length := by
      by_contra hge
      simp [List.drop_eq_nil_of_le (Nat.le_of_not_lt hge)] at hdrop
    rw [List.drop_eq_getElem_cons hidx, List.cons.injEq] at hdrop
    obtain ⟨hhead, htail⟩ := hdrop
    have hget : raw[tx.idx]? = some b := by rw [List.getElem?_eq_getElem hidx, hhead]
    have hrest := ih { tx with idx := tx.idx + 1, escCnt := tx.escCnt + BitVec.ofNat 8 ([b].count SYNC) } hraw ha he
      (Nat.le_add_left ..) hidx htail
    rw [List.flatMap_cons, ← List.singleton_append, List.count_append, BitVec.ofNat_add, ← BitVec.add_assoc]
    exact Sends.stuffByte_append hraw ha he hpos hget hrest

/-- Settles O35: the first byte goes out alone, and after it the rest of the frame, stuffed. -/
theorem engineSendsExactlyTheFrame : Obligations.EngineSendsExactlyTheFrame := by
  intro t p n w s hn hw
  obtain rfl := Option.some.inj ((wireFrame_of_size hn p).symm.trans hw)
  have hsync := sync_not_mem_headerTail hn
  have hcount : (headerTail t n ++ p.toList.take n).count SYNC = (p.toList.take n).count 0x55#8 := by
    rw [List.count_append, List.count_eq_zero.mpr hsync, Nat.zero_add]
    rfl
  have hstuff : (headerTail t n ++ p.toList.take n).flatMap stuffByte =
      headerTail t n ++ (p.toList.take n).flatMap stuffByte := by
    rw [List.flatMap_append, flatMap_stuffByte_of_not_mem hsync]
  have hraw : rawFrame t (snapshot t p) = some (SYNC :: (headerTail t n ++ p.toList.take n)) :=
    (rawFrame_snapshot t p).trans (rawFrame_of_size hn p)
  have hlen := rawFrame_length_of_size hn hraw
  have hrest := sends_rest _ _ { active := true, dtype := t, pay := snapshot t p, idx := 1, esc := false, escCnt := 0 } s
    hraw rfl rfl le_rfl (by simp) rfl
  rw [List.drop_one, List.tail_cons, hcount, hstuff, hlen] at hrest
  simp only [BitVec.ofNat_eq_ofNat, BitVec.zero_add] at hrest
  obtain ⟨hbytes, hactive, hafter⟩ :=
    Sends.cons (s := txStart t p s) rfl ((txByte_of_rawFrame hraw).trans rfl)
      (by rwa [txAdvance_eq_moveEngine hraw, txNext_of_plain rfl (.inl rfl)])
  exact ⟨hbytes, hactive, hafter⟩

/-! ### The engine in a cycle -/

/-- An active engine is not started again by a command (45_commands.md R236). -/
theorem CommandEffect.tx_of_active {s u : State} (h : CommandEffect s u) (ha : s.tx.active = true) : u.tx = s.tx := by
  cases h with
  | send t _ hwire => exact absurd (ha.symm.trans hwire) (by decide)
  | none | schedStart | schedAdjust | schedStop | evtPop | clrCnt => rfl

/-- P3 leaves an active engine alone. -/
theorem writePhase_tx_of_active {op : BusOp} {s u : State} (h : writePhase op s = .next u)
    (ha : s.tx.active = true) : u.tx = s.tx := by
  rcases writePhase_cases h with ⟨op, c, v, he, rfl⟩ | ⟨c, -, rfl⟩
  · exact he.tx_of_active ha
  · rfl

/-- P4 to P8 leave an active engine alone: a resend waits for it (44_scheduler.md R215). -/
theorem afterState_tx_of_active {s : State} (ha : s.tx.active = true) (i : CycleIn) (b : Bool) :
    (afterState i b s).tx = s.tx := by
  rw [afterState_tx]
  rcases schedService_cases s with ⟨-, heq⟩ | ⟨-, hidle, -⟩
  · rw [heq]
  · exact absurd (ha.symm.trans hidle) (by decide)

/-- The engine after P1 and P2: an active engine moves on when the Transport takes its byte. -/
theorem beforeState_tx {raw : List Byte} {i : CycleIn} {s : State} (o : CycleOut) (ha : s.tx.active = true)
    (hraw : rawFrame s.tx.dtype s.tx.pay = some raw) :
    (beforeState i o s).tx = if i.txReady then (moveEngine raw (txNext raw s.tx) s).tx else s.tx := by
  unfold beforeState sendPhase
  rw [ha, Bool.true_and]
  split
  · rw [txAdvance_eq_moveEngine (by rwa [tickPhase_tx]), tickPhase_tx, moveEngine, moveEngine]
    split <;> rfl
  · exact tickPhase_tx ..

/-- Settles O36: P2 alone moves an active engine, and while bytes remain it stays active, so that neither a command
nor a resend starts another frame in the same cycle. -/
theorem cycleSendsNextWireByte : Obligations.CycleSendsNextWireByte := by
  intro s u n hrst ha hn hidx hstep
  obtain ⟨-, hout⟩ := outputsComeFromStartState s u hstep
  obtain ⟨-, -, -, hvalid, hbyte, -⟩ := hout hrst
  obtain ⟨raw, hraw⟩ : ∃ raw, rawFrame s.tx.dtype s.tx.pay = some raw := ⟨_, rawFrame_of_size hn _⟩
  have hlen := rawFrame_length_of_size hn hraw
  obtain ⟨b, hb, hrem⟩ := remainingBytes_eq_cons hraw ha (hlen ▸ hidx)
  rcases cycle_cases hstep with ⟨hr, -⟩ | ⟨-, o, t, -, hwrite, rfl⟩
  · exact absurd (hrst.symm.trans hr) (by decide)
  have hbefore := beforeState_tx (i := nextInput s) (s := takeInput s) o ha hraw
  have hkeep (hbusy : (beforeState (nextInput s) o (takeInput s)).tx.active = true) :
      (afterState (nextInput s) (takeInput s).slot.full t).tx = (beforeState (nextInput s) o (takeInput s)).tx := by
    have htx := writePhase_tx_of_active hwrite hbusy
    exact (afterState_tx_of_active (htx ▸ hbusy) _ _).trans htx
  refine ⟨hvalid.trans ha, ?_, fun hready => ?_, fun hready htail => ?_⟩
  · rw [hrem, List.head?_cons, ← hb]
    exact hbyte ha
  · rw [hready, if_neg Bool.false_ne_true, takeInput_tx] at hbefore
    exact (hkeep (hbefore ▸ ha)).trans hbefore
  · obtain ⟨htype, hact, hpay, hmove⟩ := txNext_cases raw s.tx
    rw [hrem, List.tail_cons] at htail ⊢
    have hlt : (txNext raw s.tx).idx < raw.length := by
      rcases hmove with ⟨he, hi⟩ | ⟨-, hi⟩
      · refine lt_of_le_of_ne (by omega) fun hend => htail ?_
        exact remainingBytes_at_end (by rwa [htype, hpay]) (hact.trans ha) he (by omega) hend
      · omega
    rw [hready, if_pos rfl, takeInput_tx, moveEngine_of_lt hlt] at hbefore
    rw [hkeep (by rw [hbefore]; exact hact.trans ha), hbefore]
    exact ⟨hact.trans ha, rfl⟩

end Sys2Proof.Machine
end

section
/-! SUPPORT. The deframer, one received byte at a time: de-stuffing, the logical byte, the checks of a frame's type and
length, and the frame's end. -/

namespace Sys2Proof.Machine

/-! ### The FRAME rows of the receive path -/

/-- The row a data-type byte decodes to does what the receive path does for that byte. -/
theorem exec_dataType {t : Byte} {st : FrameStage} {i : Instr} (h : decode (.dataType t st) = .ok i) (s : State) :
    exec i s = .next (stageState t st s) := by
  rw [← runAt_of_decode h, runAt_dataType]

/-- The decoder reads each row of the table from its code (30_encoding.md R93). -/
theorem decode_frameRow {r : Byte × (FrameStage → Instr)} (h : r ∈ frameRows) (st : FrameStage) :
    decode (.dataType r.1 st) = .ok (r.2 st) := by
  simp only [frameRows, List.mem_cons, List.not_mem_nil, or_false] at h
  rcases h with rfl | rfl | rfl | rfl | rfl | rfl | rfl <;> rfl

theorem exec_frameRow {r : Byte × (FrameStage → Instr)} (h : r ∈ frameRows) (st : FrameStage) (s : State) :
    exec (r.2 st) s = .next (stageState r.1 st s) :=
  exec_dataType (decode_frameRow h st) s

/-- The header check of a recognised type (41_deframer.md R154). -/
theorem stageState_typed {t : Byte} (h : t ∈ recognisedTypes) (s : State) : stageState t .typed s = acceptType t s :=
  if_pos h

/-- Settles O21: the seven rows have the recognised codes, and each stage is its row's. -/
theorem headerCheckByType : Obligations.HeaderCheckByType := by
  have hcodes : ∀ r ∈ frameRows, r.1 ∈ recognisedTypes := by
    simp [frameRows, recognisedTypes]
  refine ⟨fun r hr s => ?_, fun t s _ => rfl⟩
  rw [exec_frameRow hr, stageState_typed (hcodes r hr)]
  rfl

/-- A frame with the length its type has goes on to the payload (R156). -/
theorem checkLength_of_fits {t : Byte} {s : State} (h : size t = some s.df.len.toNat) :
    checkLength (size t) s = { s with df := { s.df with state := .readingPayload } } := by
  have hpos := four_le_size h
  rcases checkLength_cases s (size t) with ⟨hzero, -⟩ | ⟨-, heq⟩
  · simp [hzero] at hpos
  · rw [heq, lengthCounted, lengthFits, decide_eq_true h, if_pos rfl]

/-- A wrong length is counted before the payload (R156). -/
theorem checkLength_of_misfit {sz : Option Nat} {s : State} (h : sz ≠ some s.df.len.toNat) (hne : s.df.len ≠ 0) :
    checkLength sz s = { s with df := { s.df with state := .readingPayload }, cnt := s.cnt.incMalLen } := by
  rcases checkLength_cases s sz with ⟨hzero, -⟩ | ⟨-, heq⟩
  · exact absurd hzero hne
  · rw [heq, lengthCounted, lengthFits, decide_eq_false h, if_neg Bool.false_ne_true]

/-- A frame at its end whose length is its type's size is emitted (R159). -/
theorem complete_of_fits {sz : Option Nat} {s : State} (h : sz = some s.df.len.toNat) :
    complete sz s = goIdle (emit s) := by
  rcases complete_cases s sz with ⟨-, heq⟩ | ⟨hne, -⟩
  · exact heq
  · exact absurd h hne

/-- A frame at its end with another length is counted (R160). -/
theorem complete_of_misfit {sz : Option Nat} {s : State} (h : sz ≠ some s.df.len.toNat) :
    complete sz s = goIdle { s with cnt := s.cnt.incLenErr } := by
  rcases complete_cases s sz with ⟨hfits, -⟩ | ⟨-, heq⟩
  · exact absurd hfits h
  · exact heq

/-- No type has the size 0, so that a frame of length 0 is malformed and ends mismatched (R157). -/
theorem checkLength_of_zero {t : Byte} {s : State} (h : s.df.len = 0) :
    checkLength (size t) s = goIdle { s with cnt := s.cnt.incMalLen.incLenErr } := by
  have hne : size t ≠ some s.df.len.toNat := fun hsize => by
    have hpos := four_le_size hsize
    simp [h] at hpos
  rcases checkLength_cases s (size t) with ⟨-, heq⟩ | ⟨hlen, -⟩
  · rw [heq, lengthCounted, lengthFits, decide_eq_false hne, if_neg Bool.false_ne_true]
    exact complete_of_misfit hne
  · exact absurd h hlen

/-- Settles O22, by the three outcomes of the length check. -/
theorem lengthCheckBySize : Obligations.LengthCheckBySize := by
  intro r hr s
  rw [exec_frameRow hr]
  exact ⟨fun hfits => congrArg _ (checkLength_of_fits hfits),
    fun hmisfit hne => congrArg _ (checkLength_of_misfit hmisfit hne),
    fun hzero => congrArg _ (checkLength_of_zero hzero)⟩

/-- Settles O23, by the two outcomes of a frame's end. -/
theorem completionEmitsOrCounts : Obligations.CompletionEmitsOrCounts := by
  intro r hr s
  rw [exec_frameRow hr]
  exact ⟨fun hfits => congrArg _ (complete_of_fits hfits),
    fun hmisfit => congrArg _ (complete_of_misfit hmisfit)⟩

/-! ### De-stuffing -/

/-- `StartFrame(b)` with its fields written out (R144). -/
theorem startFrame_eq (b : Byte) (s : State) : startFrame b s = { s with df := startedDeframer b } := rfl

/-- Settles O26: the three arms of a byte in AwaitingSync. -/
theorem idleDeframerStep : Obligations.IdleDeframerStep := by
  intro b s hidle
  rw [dfStep_eq, dfState, if_pos hidle]
  refine ⟨fun hb => ?_, fun hb hp => ?_, fun hb hp => ?_⟩
  · rw [if_pos (show b = SYNC from hb)]
    rfl
  · rw [if_neg (show b ≠ SYNC from hb), if_pos hp, startFrame_eq]
  · rw [if_neg (show b ≠ SYNC from hb), hp, if_neg Bool.false_ne_true]

/-- Settles O27: the four arms of a byte inside a frame. -/
theorem destuffingCases : Obligations.DestuffingCases := by
  intro b s hframe
  rw [dfStep_eq, dfState, if_neg hframe]
  refine ⟨fun hb hp => ?_, fun hb hp => ?_, fun hb hp => ?_, fun hb hp => ?_⟩
  · rw [if_pos (show b = SYNC from hb), hp, if_neg Bool.false_ne_true]
    rfl
  · rw [if_pos (show b = SYNC from hb), if_pos hp, accept_eq]
    rfl
  · rw [if_neg (show b ≠ SYNC from hb), if_pos hp, startFrame_eq]
    rfl
  · rw [if_neg (show b ≠ SYNC from hb), hp, if_neg Bool.false_ne_true, accept_eq]

/-! ### Logical bytes -/

/-- A store inside the bounds. -/
theorem vector_setIfInBounds_of_lt {α : Type} {n i : Nat} (xs : Vector α n) (x : α) (h : i < n) :
    xs.setIfInBounds i x = xs.set i x h := by
  ext j hj
  rw [Vector.getElem_setIfInBounds, Vector.getElem_set]

/-- Shifting a byte in from below is big-endian: the byte fills the digit the shift leaves free. -/
theorem shiftLeft_or_zeroExtend (x : Word) (v : Byte) :
    x <<< 8 ||| v.zeroExtend 32 = BitVec.ofNat 32 (x.toNat * 256 + v.toNat) := by
  have hdisjoint : x <<< 8 &&& v.zeroExtend 32 = 0#32 := by
    ext i hi
    rw [BitVec.getElem_and, BitVec.getElem_shiftLeft, BitVec.getElem_zero]
    by_cases hlow : i < 8
    · simp [hlow]
    · simp [BitVec.getLsbD_of_ge v i (Nat.le_of_not_lt hlow)]
  rw [← BitVec.add_eq_or_of_and_eq_zero _ _ hdisjoint]
  apply BitVec.eq_of_toNat_eq
  simp [Nat.shiftLeft_eq]

/-- A reserved byte is stored at the header count (R150). -/
theorem storeReserved_of_lt (v : Byte) {s : State} (h : s.df.hcnt < 3) : storeReserved v s =
    { s with df := { s.df with res := s.df.res.set s.df.hcnt v, hcnt := s.df.hcnt + 1 } } := by
  rw [storeReserved, vector_setIfInBounds_of_lt _ _ h]

/-- A length byte is shifted into a big-endian number (R155). -/
theorem shiftLength_eq (v : Byte) (s : State) : shiftLength v s =
    { s with df := { s.df with len := BitVec.ofNat 32 (s.df.len.toNat * 256 + v.toNat), lcnt := s.df.lcnt + 1 } } := by
  rw [shiftLength, shiftLeft_or_zeroExtend]

/-- One of the first twelve payload bytes is stored (R158). -/
theorem storePayload_of_lt (v : Byte) {s : State} (h : s.df.pcnt.toNat < 12) : storePayload v s =
    { s with df := { s.df with pay := s.df.pay.set s.df.pcnt.toNat v, pcnt := s.df.pcnt + 1 } } := by
  rw [storePayload, if_pos (show s.df.pcnt.toNat < PAY_MAX from h), vector_setIfInBounds_of_lt _ _ h]

/-- A payload byte past the twelfth is counted only (R158). -/
theorem storePayload_of_ge (v : Byte) {s : State} (h : 12 ≤ s.df.pcnt.toNat) : storePayload v s =
    { s with df := { s.df with pcnt := s.df.pcnt + 1 } } := by
  rw [storePayload, if_neg (show ¬s.df.pcnt.toNat < PAY_MAX from Nat.not_lt.mpr h)]

section
variable {s : State}

/-! What `Accept(v)` does in each field of a frame, at a byte that does not end the field and at the one that does. -/

theorem acceptState_reserved (v : Byte) (hs : s.df.state = .readingHeader) (h : s.df.hcnt < 3) :
    acceptState v s = storeReserved v s := by
  simp only [acceptState, hs, if_pos h]

theorem acceptState_type (v : Byte) (hs : s.df.state = .readingHeader) (h : 3 ≤ s.df.hcnt) :
    acceptState v s = stageState v .typed s := by
  simp only [acceptState, hs, if_neg (Nat.not_lt.mpr h)]

theorem acceptState_length (v : Byte) (hs : s.df.state = .readingLength) (h : s.df.lcnt ≠ 3) :
    acceptState v s = shiftLength v s := by
  simp only [acceptState, hs, if_neg (show s.df.lcnt + 1 ≠ 4 by omega)]

theorem acceptState_lastLength (v : Byte) (hs : s.df.state = .readingLength) (h : s.df.lcnt = 3) :
    acceptState v s = stageState s.df.dtype .lengthRead (shiftLength v s) := by
  simp only [acceptState, hs, if_pos (show s.df.lcnt + 1 = 4 by omega)]

theorem acceptState_payload (v : Byte) (hs : s.df.state = .readingPayload) (h : s.df.pcnt + 1 ≠ s.df.len) :
    acceptState v s = storePayload v s := by
  simp only [acceptState, hs, if_neg h]

theorem acceptState_lastPayload (v : Byte) (hs : s.df.state = .readingPayload) (h : s.df.pcnt + 1 = s.df.len) :
    acceptState v s = stageState s.df.dtype .completed (storePayload v s) := by
  simp only [acceptState, hs, if_pos h]

end

/-- Settles O28, field by field of a frame. -/
theorem logicalByteStored : Obligations.LogicalByteStored := by
  intro v s
  rw [accept_eq]
  refine ⟨fun hcnt hs => ?_, fun hs hcnt => ?_, fun hcnt hs hlen => ?_, fun hcnt hs hlen => ?_⟩
  · rw [acceptState_reserved v hs hcnt, storeReserved_of_lt v hcnt]
  · rw [acceptState_length v hs hcnt.ne, shiftLength_eq]
  · rw [acceptState_payload v hs hlen, storePayload_of_lt v hcnt]
  · rw [acceptState_payload v hs hlen, storePayload_of_ge v hcnt]

/-- Settles O51: where a byte ends its field, and in the slot, the row of the frame's type is what is executed. -/
theorem receivePathRunsDecodedRow : Obligations.ReceivePathRunsDecodedRow := by
  intro v s i
  rw [accept_eq]
  refine ⟨fun hi hs hcnt => ?_, fun hi hs hcnt => ?_, fun hi hcnt hs hlen => ?_, fun hi hcnt hs hlen => ?_,
    fun hi hfull => ?_⟩
  · rw [acceptState_type v hs hcnt, exec_dataType hi]
  · rw [acceptState_lastLength v hs hcnt, exec_dataType hi, shiftLength_eq, hcnt]
  · rw [acceptState_lastPayload v hs hlen, exec_dataType hi, storePayload_of_lt v hcnt, hlen]
  · rw [acceptState_lastPayload v hs hlen, exec_dataType hi, storePayload_of_ge v hcnt, hlen]
  · rw [dispatchSlot, if_pos hfull, runAt_of_decode hi]

/-! ### The counters of the deframer -/

/-- The counters the deframer leaves alone: its own five are masked (R161). -/
def Counters.outsideDeframer (c : Counters) : Counters :=
  { c with rxFrame := 0, syncErr := 0, typeErr := 0, lenErr := 0, malLen := 0 }

theorem complete_outsideDeframer (sz : Option Nat) (s : State) :
    (complete sz s).cnt.outsideDeframer = s.cnt.outsideDeframer := by
  rcases complete_cases s sz with ⟨-, heq⟩ | ⟨-, heq⟩ <;> rw [heq] <;> rfl

theorem checkLength_outsideDeframer (sz : Option Nat) (s : State) :
    (checkLength sz s).cnt.outsideDeframer = s.cnt.outsideDeframer := by
  have hcounted : (lengthCounted sz s).outsideDeframer = s.cnt.outsideDeframer := by
    unfold lengthCounted
    split <;> rfl
  rcases checkLength_cases s sz with ⟨-, heq⟩ | ⟨-, heq⟩ <;> rw [heq]
  · rw [complete_outsideDeframer, hcounted]
  · exact hcounted

theorem typed_outsideDeframer (v : Byte) (s : State) :
    (stageState v .typed s).cnt.outsideDeframer = s.cnt.outsideDeframer := by
  unfold stageState
  dsimp only
  split <;> rfl

theorem acceptState_outsideDeframer (v : Byte) (s : State) :
    (acceptState v s).cnt.outsideDeframer = s.cnt.outsideDeframer := by
  unfold acceptState
  split
  case h_1 => rfl
  case h_2 =>
    split
    · rfl
    · exact typed_outsideDeframer v s
  case h_3 =>
    split
    · exact checkLength_outsideDeframer _ _
    · rfl
  case h_4 =>
    split
    · exact complete_outsideDeframer _ _
    · rfl

theorem dfState_outsideDeframer (b : Byte) (s : State) :
    (dfState b s).cnt.outsideDeframer = s.cnt.outsideDeframer := by
  unfold dfState
  split_ifs
  · rfl
  · rfl
  · rfl
  · exact acceptState_outsideDeframer _ _
  · rfl
  · rfl
  · exact acceptState_outsideDeframer _ _

/-- Counters with the same ones outside the deframer differ in the deframer's own. -/
theorem eq_of_outsideDeframer_eq {c d : Counters} (h : d.outsideDeframer = c.outsideDeframer) :
    d = { c with
          rxFrame := d.rxFrame, syncErr := d.syncErr, typeErr := d.typeErr
          lenErr := d.lenErr, malLen := d.malLen } := by
  cases c
  cases d
  simp only [Counters.outsideDeframer, Counters.mk.injEq, true_and] at h ⊢
  exact h

/-- Settles O29: of the counters only the deframer's own five move. -/
theorem deframerTouchesOnlyItsOwn : Obligations.DeframerTouchesOnlyItsOwn := by
  intro b s
  refine ⟨dfState b s, dfStep_eq b s, ?_⟩
  rw [← eq_of_outsideDeframer_eq (dfState_outsideDeframer b s)]
  exact dfState_eq b s

end Sys2Proof.Machine
end

section
/-! SUPPORT. Streams of received bytes: the state after them and the frames emitted on the way, for noise, for the wire
bytes of a frame and for frames back to back. -/

namespace Sys2Proof.Machine

/-! ### Runs of the deframer -/

/-- Taking the bytes `w` leads from `s` to `u` and emits the frames `fs`. -/
structure Takes (s : State) (w : List Byte) (fs : List LastFrame) (u : State) : Prop where
  after : receiveAll w s = .next u
  emitted : emittedFrames w s = fs

theorem Takes.nil (s : State) : Takes s [] [] s := ⟨rfl, rfl⟩

theorem Takes.append {s t u : State} {w w' : List Byte} {fs fs' : List LastFrame} (h : Takes s w fs t)
    (h' : Takes t w' fs' u) : Takes s (w ++ w') (fs ++ fs') u := by
  obtain ⟨hafter, rfl⟩ := h
  obtain ⟨hafter', rfl⟩ := h'
  induction w generalizing s with
  | nil =>
    obtain rfl : s = t := Host.Outcome.next.inj hafter
    exact ⟨hafter', rfl⟩
  | cons b w ih =>
    rw [receiveAll, dfStep_eq, andThen_next] at hafter
    obtain ⟨hrest, hemitted⟩ := ih hafter
    refine ⟨?_, ?_⟩
    · rw [List.cons_append, receiveAll, dfStep_eq, andThen_next, hrest]
    · rw [List.cons_append, emittedFrames, emittedFrames, dfStep_eq]
      dsimp only
      rw [hemitted, List.append_assoc]

/-- A byte after which CNT_RX_FRAME has not moved emits nothing. -/
theorem Takes.quiet {s u : State} {b : Byte} (h : dfStep b s = .next u) (hcnt : u.cnt.rxFrame = s.cnt.rxFrame) :
    Takes s [b] [] u := by
  refine ⟨?_, ?_⟩
  · rw [receiveAll, h]
    rfl
  · simp only [emittedFrames, h, hcnt, if_true, List.append_nil]

/-- A byte that makes CNT_RX_FRAME count emits the frame LAST_* shows. -/
theorem Takes.frame {s u : State} {b : Byte} (h : dfStep b s = .next u) (hcnt : u.cnt = s.cnt.incRxFrame) :
    Takes s [b] [u.last] u := by
  have hne : u.cnt.rxFrame ≠ s.cnt.rxFrame := by
    rw [hcnt]
    simp [Counters.incRxFrame]
  refine ⟨?_, ?_⟩
  · rw [receiveAll, h]
    rfl
  · simp only [emittedFrames, h, if_neg hne, List.append_nil]

/-- The pending flag written with the value it has. -/
theorem setPend_self {s : State} {q : Bool} (h : s.df.pend = q) : setPend q s = s := by
  subst h
  rfl

/-! ### A deframer that waits for a frame -/

/-- The deframer is in AwaitingSync with no escape pending. -/
structure Idle (s : State) : Prop where
  state : s.df.state = .awaitingSync
  pend : s.df.pend = false

/-- An idle deframer discards a byte as it stands on the wire after a frame's first: a doubled sync byte sets the
pending flag and clears it again (41_deframer.md R148). -/
theorem Idle.takes_stuffByte {s : State} (h : Idle s) (b : Byte) : Takes s (stuffByte b) [] s := by
  obtain ⟨hs, hp⟩ := h
  by_cases hb : b = SYNC
  · obtain ⟨hset, -, -⟩ := idleDeframerStep SYNC s hs
    obtain ⟨hclear, -, -⟩ := idleDeframerStep SYNC (setPend true s) hs
    have hback : dfStep SYNC (setPend true s) = .next s := (hclear rfl).trans (congrArg _ (setPend_self hp))
    rw [hp] at hset
    rw [stuffByte, if_pos hb]
    exact (Takes.quiet (hset rfl) rfl).append (Takes.quiet hback rfl)
  · obtain ⟨-, -, hdiscard⟩ := idleDeframerStep b s hs
    rw [stuffByte, if_neg hb]
    exact Takes.quiet (hdiscard hb hp) rfl

/-- Bytes with every sync byte doubled are noise to an idle deframer. -/
theorem Idle.takes_stuffed {s : State} (h : Idle s) (bs : List Byte) : Takes s (bs.flatMap stuffByte) [] s := by
  induction bs with
  | nil => exact .nil s
  | cons b bs ih => exact (h.takes_stuffByte b).append ih

/-- Settles O32: with one sync byte more in front, the whole frame has its sync bytes doubled, the first included. -/
theorem noiseSyncLosesFrame : Obligations.NoiseSyncLosesFrame := by
  intro t p w s hw hs hp
  obtain ⟨raw, hraw, rfl⟩ := Option.map_eq_some_iff.mp hw
  obtain ⟨n, hn, -⟩ := rawFrame_length hraw
  obtain rfl := Option.some.inj ((rawFrame_of_size hn p).symm.trans hraw)
  exact (Idle.takes_stuffed ⟨hs, hp⟩ (SYNC :: (headerTail t n ++ p.toList.take n))).after

/-! ### A deframer inside a frame -/

/-- A byte as it stands on the wire after a frame's first is one logical byte: its last wire byte is the one that is
accepted, and a byte before that only sets the pending flag (R147). -/
theorem stuffByte_accepted {s : State} (b : Byte) (hs : s.df.state ≠ .awaitingSync) (hp : s.df.pend = false) :
    ∃ init c q, stuffByte b = init ++ [c] ∧ Takes s init [] (setPend q s) ∧ dfStep c (setPend q s) = accept b s := by
  by_cases hb : b = SYNC
  · obtain ⟨hset, -⟩ := destuffingCases SYNC s hs
    obtain ⟨-, hpair, -⟩ := destuffingCases SYNC (setPend true s) hs
    refine ⟨[SYNC], SYNC, true, ?_, Takes.quiet (hset rfl hp) rfl, ?_⟩
    · rw [stuffByte, if_pos hb, List.singleton_append]
    · rw [hpair rfl rfl, hb]
      exact congrArg _ (setPend_self hp)
  · obtain ⟨-, -, -, hplain⟩ := destuffingCases b s hs
    refine ⟨[], b, false, ?_, ?_, ?_⟩
    · rw [stuffByte, if_neg hb, List.nil_append]
    · rw [setPend_self hp]
      exact .nil s
    · rw [setPend_self hp, hplain hb hp]

/-- A logical byte that ends no frame. -/
theorem Takes.logical {s u : State} {b : Byte} (hs : s.df.state ≠ .awaitingSync) (hp : s.df.pend = false)
    (h : acceptState b s = u) (hcnt : u.cnt.rxFrame = s.cnt.rxFrame) : Takes s (stuffByte b) [] u := by
  obtain ⟨init, c, q, hw, hinit, hlast⟩ := stuffByte_accepted b hs hp
  rw [hw]
  exact hinit.append (Takes.quiet (hlast.trans ((accept_eq b s).trans (congrArg _ h))) hcnt)

/-- A byte other than the sync byte, inside a frame, that ends no frame. -/
theorem Takes.plain {s u : State} {b : Byte} (hs : s.df.state ≠ .awaitingSync) (hp : s.df.pend = false)
    (hb : b ≠ SYNC) (h : acceptState b s = u) (hcnt : u.cnt.rxFrame = s.cnt.rxFrame) : Takes s [b] [] u := by
  have hstuff := Takes.logical hs hp h hcnt
  rwa [stuffByte, if_neg hb] at hstuff

/-! ### The header of a frame the encoder sends -/

/-- The deframer in a frame of type `t` from the encoder, `k` zero bytes into its length. -/
def lengthDeframer (t : Byte) (k : Nat) : Deframer :=
  { state := .readingLength, pend := false, hcnt := 4, res := #v[0xDE#8, 0xAD#8, 0xBE#8], dtype := t, lcnt := k
    len := 0, pcnt := 0, pay := Pay.zero }

/-- The deframer in a frame of type `t` and size `n` from the encoder, `k` bytes into its payload `p`. -/
def payloadDeframer (t : Byte) (n k : Nat) (p : Pay) : Deframer :=
  { lengthDeframer t 4 with
    state := .readingPayload, len := BitVec.ofNat 32 n, pcnt := BitVec.ofNat 32 k, pay := firstBytes k p }

theorem firstBytes_zero (p : Pay) : firstBytes 0 p = Pay.zero := by
  ext i hi
  simp [firstBytes, Pay.zero]

/-- `s` with the frame it was in, if any, counted as interrupted (41_deframer.md R151). -/
def interrupted (s : State) : State :=
  { s with
    cnt := { s.cnt with syncErr := if s.df.state = .awaitingSync then s.cnt.syncErr else s.cnt.syncErr + 1 } }

/-- An unpaired sync byte starts a frame with the byte after it, whatever the deframer was doing (R149, R151). -/
theorem takes_start {s : State} {b : Byte} (hp : s.df.pend = false) (hb : b ≠ SYNC) :
    Takes s [SYNC, b] [] { interrupted s with df := startedDeframer b } := by
  have hset : dfStep SYNC s = .next (setPend true s) := by
    by_cases hs : s.df.state = .awaitingSync
    · obtain ⟨htoggle, -⟩ := idleDeframerStep SYNC s hs
      rw [htoggle rfl, hp]
      rfl
    · obtain ⟨hfirst, -⟩ := destuffingCases SYNC s hs
      exact hfirst rfl hp
  have hstart : dfStep b (setPend true s) = .next { interrupted s with df := startedDeframer b } := by
    by_cases hs : s.df.state = .awaitingSync
    · obtain ⟨-, hframe, -⟩ := idleDeframerStep b (setPend true s) hs
      rw [hframe hb rfl, interrupted, if_pos hs]
      rfl
    · obtain ⟨-, -, hrestart, -⟩ := destuffingCases b (setPend true s) hs
      rw [hrestart hb rfl, interrupted, if_neg hs]
      rfl
  exact (Takes.quiet (u := setPend true s) hset rfl).append (Takes.quiet hstart rfl)

/-- The other reserved bytes and the data type (R150, R154). -/
theorem takes_type {t : Byte} (ht : t ∈ recognisedTypes) (hsync : t ≠ SYNC) (s : State) :
    Takes { s with df := startedDeframer 0xDE#8 } [0xAD#8, 0xBE#8, t] [] { s with df := lengthDeframer t 0 } := by
  have hres : Takes { s with df := startedDeframer 0xDE#8 } [0xAD#8, 0xBE#8] []
      { s with df := { startedDeframer 0xDE#8 with res := #v[0xDE#8, 0xAD#8, 0xBE#8], hcnt := 3 } } :=
    (Takes.plain (by nofun) rfl (by decide) rfl rfl).append (Takes.plain (by nofun) rfl (by decide) rfl rfl)
  refine hres.append (Takes.plain (by nofun) rfl hsync ?_ rfl)
  rw [acceptState_type t rfl le_rfl, stageState_typed ht]
  rfl

/-- A size survives the length field. -/
theorem size_eq_toNat_ofNat {t : Byte} {n : Nat} (h : size t = some n) : size t = some (BitVec.ofNat 32 n).toNat := by
  have hle := size_le h
  rw [h, BitVec.toNat_ofNat, Nat.mod_eq_of_lt (by omega)]

/-- A length byte after zero bytes (R155). -/
theorem shiftLength_lengthDeframer (v : Byte) (t : Byte) (k : Nat) (s : State) :
    shiftLength v { s with df := lengthDeframer t k } =
      { s with df := { lengthDeframer t (k + 1) with len := BitVec.ofNat 32 v.toNat } } := by
  rw [shiftLength_eq]
  simp [lengthDeframer]

/-- The length: three zero bytes and the size of the type (R155, R156). -/
theorem takes_length {t : Byte} {n : Nat} (hn : size t = some n) (hsync : BitVec.ofNat 8 n ≠ SYNC) (p : Pay)
    (s : State) :
    Takes { s with df := lengthDeframer t 0 } [0x00#8, 0x00#8, 0x00#8, BitVec.ofNat 8 n] []
      { s with df := payloadDeframer t n 0 p } := by
  have hle := size_le hn
  have hbyte : (BitVec.ofNat 8 n).toNat = n := by
    rw [BitVec.toNat_ofNat]
    omega
  have hzero (k : Nat) (hk : k ≠ 3) :
      Takes { s with df := lengthDeframer t k } [0x00#8] [] { s with df := lengthDeframer t (k + 1) } := by
    refine Takes.plain (by nofun) rfl (by decide) ?_ rfl
    rw [acceptState_length _ rfl hk, shiftLength_lengthDeframer]
    rfl
  have hlast : acceptState (BitVec.ofNat 8 n) { s with df := lengthDeframer t 3 } =
      { s with df := payloadDeframer t n 0 p } := by
    rw [acceptState_lastLength _ rfl rfl, shiftLength_lengthDeframer, hbyte, payloadDeframer, firstBytes_zero]
    exact checkLength_of_fits (size_eq_toNat_ofNat hn)
  exact (hzero 0 (by decide)).append ((hzero 1 (by decide)).append ((hzero 2 (by decide)).append
    (Takes.plain (by nofun) rfl hsync hlast rfl)))

/-- The nine header bytes (40_encoder.md R124), of which the first two interrupt what the deframer was doing. -/
theorem takes_header {t : Byte} {n : Nat} (hn : size t = some n) (p : Pay) {s : State} (hp : s.df.pend = false) :
    Takes s (SYNC :: headerTail t n) [] { interrupted s with df := payloadDeframer t n 0 p } := by
  have hrow := (size_eq_some_iff t n).mp hn
  have ht : t ∈ recognisedTypes := by
    simp only [List.mem_cons, Prod.mk.injEq, List.not_mem_nil, or_false] at hrow
    rcases hrow with ⟨rfl, -⟩ | ⟨rfl, -⟩ | ⟨rfl, -⟩ | ⟨rfl, -⟩ | ⟨rfl, -⟩ <;> decide
  have hsync := sync_not_mem_headerTail hn
  rw [headerTail_eq hn] at hsync ⊢
  have htype := takes_type ht (ne_of_mem_of_not_mem (by simp) hsync) (interrupted s)
  have hlength := takes_length hn (ne_of_mem_of_not_mem (by simp) hsync) p (interrupted s)
  exact (takes_start hp (by decide)).append (htype.append hlength)

/-! ### The payload and the end of a frame -/

/-- The wire bytes of a frame up to its `k`-th payload byte. -/
def wireUpTo (t : Byte) (n k : Nat) (p : Pay) : List Byte :=
  SYNC :: headerTail t n ++ (p.toList.take k).flatMap stuffByte

theorem wireFrame_eq_wireUpTo {t : Byte} {n : Nat} (h : size t = some n) (p : Pay) :
    wireFrame t p = some (wireUpTo t n n p) :=
  wireFrame_of_size h p

theorem wireUpTo_succ (t : Byte) (n : Nat) (p : Pay) {k : Nat} (h : k < 12) :
    wireUpTo t n (k + 1) p = wireUpTo t n k p ++ stuffByte p[k] := by
  rw [wireUpTo, wireUpTo, List.append_assoc, List.take_succ_eq_append_getElem (by simpa using h),
    List.flatMap_append, List.flatMap_singleton, Vector.getElem_toList]

/-- Storing the next byte of the payload. -/
theorem firstBytes_succ (p : Pay) {k : Nat} (h : k < 12) : (firstBytes k p).set k p[k] = firstBytes (k + 1) p := by
  ext i hi
  rw [Vector.getElem_set]
  by_cases hik : k = i
  · simp [firstBytes, hik]
  · have hlt : i < k ↔ i < k + 1 := by omega
    simp [firstBytes, hik, hlt]

section
variable {t : Byte} {n k : Nat} (p : Pay) (s : State)

/-- A payload byte of the frame is stored in its place (R158). -/
theorem storePayload_payloadDeframer (h : k < 12) :
    storePayload p[k] { s with df := payloadDeframer t n k p } =
      { s with df := payloadDeframer t n (k + 1) p } := by
  have hcnt : (BitVec.ofNat 32 k).toNat = k := by
    rw [BitVec.toNat_ofNat]
    omega
  rw [storePayload_of_lt p[k] (show (BitVec.ofNat 32 k).toNat < 12 from hcnt.trans_lt h)]
  simp only [payloadDeframer, hcnt, firstBytes_succ p h, BitVec.ofNat_add]
  rfl

/-- A payload byte before the last goes on to the next. -/
theorem acceptState_payloadDeframer (hn : n ≤ 12) (h : k + 1 < n) :
    acceptState p[k] { s with df := payloadDeframer t n k p } = { s with df := payloadDeframer t n (k + 1) p } := by
  have hlen : BitVec.ofNat 32 k + 1 ≠ BitVec.ofNat 32 n := by
    bv_omega
  rw [acceptState_payload _ rfl hlen, storePayload_payloadDeframer p s (by omega)]

/-- `s` after a frame of type `t`, size `n` and payload `p` from the encoder (R159). -/
def receivedFrame (t : Byte) (n : Nat) (p : Pay) (s : State) : State :=
  goIdle (emit { s with df := payloadDeframer t n n p })

/-- The last payload byte emits the frame (R159). -/
theorem acceptState_lastByte (hn : size t = some n) (h : k + 1 = n) (hk : k < 12) :
    acceptState p[k] { s with df := payloadDeframer t n k p } = receivedFrame t n p s := by
  have hlen : BitVec.ofNat 32 k + 1 = BitVec.ofNat 32 n := by
    rw [← h, BitVec.ofNat_add]
    rfl
  rw [acceptState_lastPayload _ rfl hlen, storePayload_payloadDeframer p s hk, h]
  exact complete_of_fits (size_eq_toNat_ofNat hn)

theorem receivedFrame_last (hn : size t = some n) : (receivedFrame t n p s).last = sentFrame t p := by
  rw [sentFrame, snapshot, hn]
  rfl

theorem receivedFrame_idle : Idle (receivedFrame t n p s) := ⟨rfl, rfl⟩

theorem receivedFrame_cnt : (receivedFrame t n p s).cnt = s.cnt.incRxFrame := rfl

variable {s}

/-- Up to any payload byte before the last, a frame only fills the deframer. -/
theorem takes_wireUpTo (hn : size t = some n) (hp : s.df.pend = false) (hk : k < n) :
    Takes s (wireUpTo t n k p) [] { interrupted s with df := payloadDeframer t n k p } := by
  have hle := size_le hn
  induction k with
  | zero => exact (takes_header hn p hp).append (.nil _)
  | succ k ih =>
    rw [wireUpTo_succ t n p (by omega)]
    exact (ih (by omega)).append (Takes.logical (by nofun) rfl (acceptState_payloadDeframer p _ hle hk) rfl)

/-- The wire bytes of a frame: all but the last change the deframer alone, once the interrupted frame is counted, and
the last emits the frame (R163). -/
theorem wireFrame_received {w : List Byte} (hw : wireFrame t p = some w) (hp : s.df.pend = false) :
    ∃ n init c d, size t = some n ∧ w = init ++ [c] ∧ Takes s init [] { interrupted s with df := d } ∧
      dfStep c { interrupted s with df := d } = .next (receivedFrame t n p (interrupted s)) := by
  obtain ⟨raw, hraw, -⟩ := Option.map_eq_some_iff.mp hw
  obtain ⟨n, hn, -⟩ := rawFrame_length hraw
  obtain rfl := Option.some.inj ((wireFrame_eq_wireUpTo hn p).symm.trans hw)
  have hlo := four_le_size hn
  have hhi := size_le hn
  obtain ⟨m, rfl⟩ : ∃ m, n = m + 1 := Nat.exists_eq_succ_of_ne_zero (by omega)
  obtain ⟨init, c, q, hstuff, hinit, hlast⟩ := stuffByte_accepted p[m]
    (s := { interrupted s with df := payloadDeframer t (m + 1) m p }) (by nofun) rfl
  refine ⟨m + 1, wireUpTo t (m + 1) m p ++ init, c, _, hn, ?_,
    (takes_wireUpTo p hn hp (Nat.lt_succ_self m)).append hinit, ?_⟩
  · rw [wireUpTo_succ t (m + 1) p hhi, hstuff, List.append_assoc]
  · exact hlast.trans ((accept_eq _ _).trans (congrArg _ (acceptState_lastByte p _ hn rfl hhi)))

end

/-- Settles O30: the last wire byte alone emits, and nothing before it but the interrupted frame's count leaves the
deframer. -/
theorem deframerRoundTrip : Obligations.DeframerRoundTrip := by
  intro t p w s hw hp
  obtain ⟨n, init, c, d, hn, rfl, hinit, hlast⟩ := wireFrame_received p hw hp
  have hrun := hinit.append (Takes.frame hlast (receivedFrame_cnt ..))
  refine ⟨⟨_, hrun.after, ?_, receivedFrame_last p _ hn, rfl, rfl, rfl⟩, ?_⟩
  · rw [snapshot, hn]
    rfl
  · rw [List.dropLast_concat]
    exact ⟨_, hinit.after, rfl, rfl, rfl⟩

/-! ### Frames back to back -/

/-- Bytes without a sync byte are noise to an idle deframer (R148). -/
theorem Idle.takes_noise {s : State} (h : Idle s) {noise : List Byte} (hnoise : ∀ b ∈ noise, b ≠ SYNC) :
    Takes s noise [] s := by
  have hrun := h.takes_stuffed noise
  rwa [flatMap_stuffByte_of_not_mem fun hmem => hnoise SYNC hmem rfl] at hrun

/-- An idle deframer interrupts no frame. -/
theorem Idle.interrupted_eq {s : State} (h : Idle s) : interrupted s = s := by
  rw [interrupted, if_pos h.state]

/-- Frames back to back are each emitted, and between them the deframer is idle (R164). -/
theorem Idle.takes_wireStream {s : State} (h : Idle s) {fs : List (Byte × Pay)}
    (hfs : ∀ f ∈ fs, f.1 ∈ encodableTypes) :
    ∃ u, Takes s (wireStream fs) (fs.map fun f => sentFrame f.1 f.2) u ∧ Idle u ∧
      u.cnt = { s.cnt with rxFrame := s.cnt.rxFrame + BitVec.ofNat 32 fs.length } := by
  induction fs generalizing s with
  | nil => exact ⟨s, .nil s, h, by simp⟩
  | cons f fs ih =>
    obtain ⟨hf, hrest⟩ := List.forall_mem_cons.mp hfs
    obtain ⟨m, hm⟩ := Option.isSome_iff_exists.mp ((encodable_iff f.1).mpr hf)
    have hw := wireFrame_of_size hm f.2
    obtain ⟨n, init, c, d, hn, hsplit, hinit, hlast⟩ := wireFrame_received f.2 hw h.pend
    rw [h.interrupted_eq] at hinit hlast
    obtain ⟨u, hrun, hidle, hcnt⟩ := ih (receivedFrame_idle f.2 s) hrest
    have hframe := hinit.append (Takes.frame hlast (receivedFrame_cnt ..))
    rw [← hsplit, receivedFrame_last f.2 s hn] at hframe
    refine ⟨u, ?_, hidle, ?_⟩
    · rw [wireStream, List.flatMap_cons, hw]
      exact hframe.append hrun
    · rw [hcnt, receivedFrame_cnt, Counters.incRxFrame, List.length_cons, Nat.add_comm, BitVec.ofNat_add,
        ← BitVec.add_assoc]
      rfl

/-- Settles O31: noise leaves an idle deframer as it is, and so the stream is that of its frames. -/
theorem noiseAndFramesGiveExactlyTheFrames : Obligations.NoiseAndFramesGiveExactlyTheFrames := by
  intro s noise noise' fs hs hp hnoise hnoise' hfs
  have hidle : Idle s := ⟨hs, hp⟩
  obtain ⟨u, hframes, hend, hcnt⟩ := hidle.takes_wireStream hfs
  have hrun := ((hidle.takes_noise hnoise).append hframes).append (hend.takes_noise hnoise')
  rw [List.nil_append, List.append_nil] at hrun
  exact ⟨hrun.emitted, u, hrun.after, hcnt⟩

end Sys2Proof.Machine
end

section
/-! SUPPORT. The dispatcher's handling of the frame in the slot, and the fate of the registry's entries over a
cycle: which phases add one, which remove one, and the event each removal pushes. -/

namespace Sys2Proof.Machine

/-! ### The frame in the slot -/

/-- What a response can cancel: the live entries of its kind and identifier (43_registry.md R197). -/
theorem answers_iff {k : Kind} {id : Word} {e : Entry} :
    answers k id e = true ↔ e.expired = false ∧ e.kind = k ∧ e.id = id := by
  simp [answers, and_assoc]

/-- Removing the first entry of a sort keeps what stands before and after it. -/
theorem eraseP_append_cons {p : Entry → Bool} {before : List Entry} {e : Entry} (hbefore : ∀ x ∈ before, ¬p x = true)
    (he : p e = true) (after : List Entry) : (before ++ e :: after).eraseP p = before ++ after := by
  rw [List.eraseP_append_right _ hbefore, List.eraseP_cons_of_pos he]

theorem evqHasRoom_iff (s : State) : evqHasRoom s = true ↔ s.evq.length < s.cfg.evqDepth := decide_eq_true_iff

section
variable {s : State} {code : Byte} {k : Kind}

/-- A response stalls while the queue is full (42_dispatcher.md R179). -/
theorem respond_of_no_room (h : s.cfg.evqDepth ≤ s.evq.length) : respond code k s = s := by
  rcases respond_cases s code k with ⟨-, heq⟩ | ⟨hroom, -⟩
  · exact heq
  · exact absurd ((evqHasRoom_iff s).mp hroom) (Nat.not_lt.mpr h)

/-- A response with a live entry removes the first one and pushes a matched event (R178, R197). -/
theorem respond_of_live {before after : List Entry} {e : Entry} (hroom : s.evq.length < s.cfg.evqDepth)
    (hreg : s.reg = before ++ e :: after) (hbefore : ∀ x ∈ before, ¬answers k (ident s.slot.pay) x = true)
    (he : answers k (ident s.slot.pay) e = true) :
    respond code k s =
      { s with
        reg := before ++ after
        evq := s.evq ++ [responseEvent code true k s.slot.pay]
        slot := { s.slot with full := false } } := by
  rcases respond_cases s code k with ⟨hfull, -⟩ | ⟨-, ⟨-, heq⟩ | ⟨hnone, -⟩⟩
  · rw [(evqHasRoom_iff s).mpr hroom] at hfull
    exact nomatch hfull
  · rw [heq, hreg, eraseP_append_cons hbefore he]
  · have hmem : e ∈ s.reg := by simp [hreg]
    exact absurd he (List.any_eq_false.mp hnone e hmem)

/-- A response without a live entry is counted late and pushes an unmatched event (R178, R206). -/
theorem respond_of_late (hroom : s.evq.length < s.cfg.evqDepth)
    (hnone : ∀ x ∈ s.reg, ¬answers k (ident s.slot.pay) x = true) :
    respond code k s =
      { s with
        evq := s.evq ++ [responseEvent code false k s.slot.pay]
        cnt := s.cnt.incLate
        slot := { s.slot with full := false } } := by
  rcases respond_cases s code k with ⟨hfull, -⟩ | ⟨-, ⟨hsome, -⟩ | ⟨-, heq⟩⟩
  · rw [(evqHasRoom_iff s).mpr hroom] at hfull
    exact nomatch hfull
  · rw [List.any_eq_false.mpr hnone] at hsome
    exact nomatch hsome
  · exact heq

end

/-- The rows of the responses in the slot (42_dispatcher.md R172). -/
theorem exec_responseRow {r : Byte × Kind × (FrameStage → Instr)} (h : r ∈ responseRows) (s : State) :
    exec (r.2.2 .dispatched) s = .next (respond r.1 r.2.1 s) := by
  simp only [responseRows, List.mem_cons, List.not_mem_nil, or_false] at h
  rcases h with rfl | rfl | rfl <;> rfl

/-- Settles O24, by the three outcomes of a response: no room, a live entry, none. -/
theorem responseCancelsFirstLiveEntry : Obligations.ResponseCancelsFirstLiveEntry := by
  intro r hr s
  rw [exec_responseRow hr]
  refine ⟨fun hfull => ?_, fun before after e hroom hreg hbefore hlive hkind hid => ?_, fun hroom hnone => ?_⟩
  · rw [respond_of_no_room hfull]
  · rw [respond_of_live hroom hreg (fun x hx h => hbefore x hx (answers_iff.mp h))
      (answers_iff.mpr ⟨hlive, hkind, hid⟩)]
    rfl
  · rw [respond_of_late hroom fun x hx h => hnone x hx (answers_iff.mp h)]
    rfl

/-- The ground side has no handler for a request (R182). -/
theorem stageState_dispatched_request {t : Byte} (h : t = 1#8 ∨ t = 4#8) (s : State) :
    stageState t .dispatched s = dropFrame s := by
  rcases h with rfl | rfl <;> rfl

/-- Settles O25: in the slot, and as a row, a request is dropped. -/
theorem requestInSlotIsDropped : Obligations.RequestInSlotIsDropped := by
  refine fun s => ⟨fun hfull htype => ?_, fun i hi => ?_⟩
  · rw [dispatchSlot_eq, if_pos hfull, stageState_dispatched_request htype]
    rfl
  · rcases hi with rfl | rfl <;> rfl

/-! ### The entries and events of the phases P6 to P8 -/

section
variable {reg : List Entry} {evq : List Event} {t u : State}

/-- Nothing is removed and nothing pushed. -/
theorem EntriesResolved.of_unchanged (hreg : u.reg = reg) (hevq : u.evq = evq) : EntriesResolved reg evq u := by
  subst hreg hevq
  exact ⟨[], [], [], by simp⟩

/-- An event that is neither matched nor a timeout stands for no entry. -/
theorem EntriesResolved.of_other {v : Event} (hreg : u.reg = reg) (hevq : u.evq = evq ++ [v])
    (hmatched : v.matched = false) (hcode : v.code ≠ 0x80#8) : EntriesResolved reg evq u := by
  subst hreg
  exact ⟨[], [], [v], hevq, by simp [hmatched, hcode]⟩

/-- A live entry answered, with its matched event. -/
theorem EntriesResolved.of_answered {e : Entry} {v : Event} (hperm : reg.Perm (e :: u.reg))
    (hsub : u.reg.Sublist reg) (hevq : u.evq = evq ++ [v]) (hlive : e.expired = false) (hmatched : v.matched = true)
    (hcode : v.code ≠ 0x80#8) (hkind : v.kind = e.kind) (hid : v.id = e.id) : EntriesResolved reg evq u :=
  ⟨[e], [], [v], hevq, by simpa using hperm, hsub, by simp [hlive, hmatched, hcode, hkind, hid]⟩

/-- An expired entry timed out, with its event. -/
theorem EntriesResolved.of_timedOut {e : Entry} (hperm : reg.Perm (e :: u.reg)) (hsub : u.reg.Sublist reg)
    (hevq : u.evq = evq ++ [timeoutEvent e]) (hexpired : e.expired = true) : EntriesResolved reg evq u :=
  ⟨[], [e], [timeoutEvent e], hevq, by simpa using hperm, hsub, by simp [hexpired, timeoutEvent]⟩

/-- One phase after another: their entries and their events, in order. -/
theorem EntriesResolved.trans (h : EntriesResolved reg evq t) (h' : EntriesResolved t.reg t.evq u) :
    EntriesResolved reg evq u := by
  obtain ⟨answered, timedOut, new, hevq, hperm, hsub, hlive, hexpired, hmatched, htimeouts⟩ := h
  obtain ⟨answered', timedOut', new', hevq', hperm', hsub', hlive', hexpired', hmatched', htimeouts'⟩ := h'
  have hswap : (timedOut ++ (answered' ++ (timedOut' ++ u.reg))).Perm
      (answered' ++ (timedOut ++ (timedOut' ++ u.reg))) := List.perm_append_comm_assoc _ _ _
  refine ⟨answered ++ answered', timedOut ++ timedOut', new ++ new', ?_, ?_, hsub'.trans hsub, ?_, ?_, ?_, ?_⟩
  · rw [hevq', hevq, List.append_assoc]
  · refine (hperm.trans (hperm'.append_left _)).trans ?_
    simpa only [List.append_assoc] using hswap.append_left answered
  · exact List.forall_mem_append.mpr ⟨hlive, hlive'⟩
  · exact List.forall_mem_append.mpr ⟨hexpired, hexpired'⟩
  · simp only [List.filter_append, List.map_append, hmatched, hmatched']
  · simp only [List.filter_append, List.map_append, htimeouts, htimeouts']

end

/-- A registry is its first entry of a sort and the rest without it. -/
theorem perm_cons_eraseP {p : Entry → Bool} {l : List Entry} {e : Entry} (h : l.find? p = some e) :
    l.Perm (e :: l.eraseP p) := by
  obtain ⟨he, before, after, rfl, hbefore⟩ := List.find?_eq_some_iff_append.mp h
  rw [eraseP_append_cons (by simpa using hbefore) he]
  exact List.perm_middle

/-- A response answers one live entry with a matched event, or none with an unmatched one. -/
theorem respond_resolves {code : Byte} (hcode : code ∈ responseTypes) (k : Kind) (s : State) :
    EntriesResolved s.reg s.evq (respond code k s) := by
  have hne : code ≠ 0x80#8 := by rintro rfl; exact absurd hcode (by decide)
  rcases respond_cases s code k with ⟨-, heq⟩ | ⟨-, ⟨hany, heq⟩ | ⟨-, heq⟩⟩ <;> rw [heq]
  · exact .of_unchanged rfl rfl
  · obtain ⟨e, hfind⟩ := Option.isSome_iff_exists.mp (List.find?_isSome.mpr (List.any_eq_true.mp hany))
    obtain ⟨hlive, hkind, hid⟩ := answers_iff.mp (List.find?_some hfind)
    exact .of_answered (perm_cons_eraseP hfind) List.eraseP_sublist rfl hlive rfl hne hkind.symm hid.symm
  · exact .of_other rfl rfl rfl hne

/-- P6. -/
theorem dispatchState_resolves (s : State) : EntriesResolved s.reg s.evq (dispatchState s) := by
  unfold dispatchState
  split
  · rcases stageState_dispatched_cases s.slot.dtype s with ⟨ht, k, heq⟩ | ⟨-, heq⟩ <;> rw [heq]
    · exact respond_resolves ht k s
    · exact .of_unchanged rfl rfl
  · exact .of_unchanged rfl rfl

@[simp] theorem faultPhase_reg (i : CycleIn) (s : State) : (faultPhase i s).reg = s.reg := by rw [faultPhase_eq]

/-- The first part of P8 times out one expired entry, if any (43_registry.md R198). -/
theorem timeoutPush_resolves (s : State) : EntriesResolved s.reg s.evq (timeoutPush s) := by
  rcases timeoutPush_cases s with ⟨-, heq⟩ | ⟨e, hfind, -, heq⟩ <;> rw [heq]
  · exact .of_unchanged rfl rfl
  · exact .of_timedOut (perm_cons_eraseP hfind) List.eraseP_sublist rfl (List.find?_some hfind)

/-- The second part of P8 resolves no entry (60_exceptions.md R267). -/
theorem faultPush_resolves (s : State) : EntriesResolved s.reg s.evq (faultPush s) := by
  rcases faultPush_cases s with ⟨-, heq⟩ | ⟨-, -, heq⟩ <;> rw [heq]
  · exact .of_unchanged rfl rfl
  · exact .of_other rfl rfl rfl (by simp [faultEvent])

/-- P6 to P8. -/
theorem dispatchToPush_resolves (i : CycleIn) (s : State) :
    EntriesResolved s.reg s.evq (pushPhase (faultPhase i (dispatchState s))) := by
  have hfault : EntriesResolved s.reg s.evq (faultPhase i (dispatchState s)) :=
    (dispatchState_resolves s).trans (.of_unchanged (faultPhase_reg _ _) (faultPhase_evq _ _))
  exact (hfault.trans (timeoutPush_resolves _)).trans (faultPush_resolves _)

/-! ### The entries of the phases P1 to P5 -/

@[simp] theorem tickPhase_reg (i : CycleIn) (s : State) :
    (tickPhase i s).reg = if i.tick then s.reg.map countEntry else s.reg := by
  unfold tickPhase
  split
  · rw [schedTick_eq]; rfl
  · rfl

@[simp] theorem sendPhase_reg (i : CycleIn) (b : Bool) (s : State) : (sendPhase i b s).reg = s.reg := by
  unfold sendPhase
  split
  · rw [txAdvance_eq]
  · rfl

/-- P1 counts the entries down, and P2 leaves them alone. -/
theorem beforeState_reg (i : CycleIn) (o : CycleOut) (s : State) :
    (beforeState i o s).reg = if i.tick then s.reg.map countEntry else s.reg := by
  rw [beforeState, sendPhase_reg, tickPhase_reg]

/-- A sent frame adds at most one entry, at the tail (R193). -/
theorem registerRequest_reg (t : Byte) (p : Pay) (d : Word) (s : State) :
    ∃ added : List Entry, added.length ≤ 1 ∧ (registerRequest t p d s).reg = s.reg ++ added := by
  rcases registerRequest_cases s t p d with ⟨-, heq⟩ | ⟨k, -, heq⟩ <;> rw [heq]
  · exact ⟨[], zero_le_one, by simp⟩
  · exact ⟨[_], le_rfl, rfl⟩

/-- Of the commands, only SEND adds an entry, and its frame then takes the wire (45_commands.md R236). -/
theorem CommandEffect.reg {s u : State} (h : CommandEffect s u) :
    u.reg = s.reg ∨
      u.tx.active = true ∧ ∃ added : List Entry, added.length ≤ 1 ∧ u.reg = s.reg ++ added := by
  cases h with
  | send t => exact .inr ⟨rfl, registerRequest_reg t _ _ s⟩
  | none | schedStart | schedAdjust | schedStop | evtPop | clrCnt => exact .inl rfl

/-- P3 adds an entry only with a frame that takes the wire. -/
theorem writePhase_reg {op : BusOp} {s u : State} (h : writePhase op s = .next u) :
    u.reg = s.reg ∨
      u.tx.active = true ∧ ∃ added : List Entry, added.length ≤ 1 ∧ u.reg = s.reg ++ added := by
  rcases writePhase_cases h with ⟨op, c, v, he, rfl⟩ | ⟨c, -, rfl⟩
  · exact he.reg
  · exact .inl rfl

/-- P4 adds at most one entry (44_scheduler.md R216). -/
theorem schedService_reg (s : State) :
    ∃ added : List Entry, added.length ≤ 1 ∧ (schedService s).reg = s.reg ++ added := by
  rcases schedService_cases s with ⟨-, heq⟩ | ⟨-, -, ⟨-, -, heq⟩ | ⟨-, heq⟩⟩ <;> rw [heq]
  · exact ⟨[], zero_le_one, by simp⟩
  · exact ⟨[], zero_le_one, by simp⟩
  · exact registerRequest_reg _ _ _ s

/-- With the wire taken P4 does nothing (R215). -/
theorem schedService_of_active {s : State} (h : s.tx.active = true) : schedService s = s := by
  rcases schedService_cases s with ⟨-, heq⟩ | ⟨-, hidle, -⟩
  · exact heq
  · exact absurd (h.symm.trans hidle) (by decide)

/-- P3 and P4 together add at most one entry: after SEND's frame a resend waits for the wire. -/
theorem schedService_writePhase_reg {op : BusOp} {s u : State} (h : writePhase op s = .next u) :
    ∃ added : List Entry, added.length ≤ 1 ∧ (schedService u).reg = s.reg ++ added := by
  rcases writePhase_reg h with hreg | ⟨hwire, hadded⟩
  · exact hreg ▸ schedService_reg u
  · rwa [schedService_of_active hwire]

@[simp] theorem receiveState_reg (i : CycleIn) (b : Bool) (s : State) : (receiveState i b s).reg = s.reg := by
  unfold receiveState
  split
  · rw [dfState_eq]
  · rfl

/-- P3 takes the queue's head at most, and that for EVT_POP alone. -/
theorem writePhase_evq_drop {op : BusOp} {s u : State} (h : writePhase op s = .next u) :
    ∃ popped : Nat, popped ≤ 1 ∧ (popped = 1 → op = .write 2#6 0x00000005#32) ∧ u.evq = s.evq.drop popped := by
  rcases writePhase_evq h with ⟨hop, hevq⟩ | hevq
  · exact ⟨1, le_rfl, fun _ => hop, hevq.trans List.drop_one.symm⟩
  · exact ⟨0, zero_le_one, fun hone => absurd hone zero_ne_one, hevq⟩

/-- P4 to P8, from the registry P4 leaves and the queue P3 leaves. -/
theorem afterState_resolves (i : CycleIn) (wasFull : Bool) (s : State) :
    EntriesResolved (schedService s).reg s.evq (afterState i wasFull s) := by
  have h := dispatchToPush_resolves i (receiveState i wasFull (schedService s))
  rwa [receiveState_reg, receiveState_evq, schedService_evq] at h

/-- Settles O41: P6 and P8 each resolve at most one entry with its event, and the phases before them count down and
add. -/
theorem eachRemovedEntryHasOneEvent : Obligations.EachRemovedEntryHasOneEvent := by
  refine ⟨fun i s u h => ?_, fun s u hrst hstep => ?_⟩
  · rw [dispatchSlot_eq] at h
    obtain rfl := Host.Outcome.next.inj h
    exact dispatchToPush_resolves i s
  · rcases cycle_cases hstep with ⟨hr, -⟩ | ⟨-, o, t, -, hwrite, rfl⟩
    · exact absurd (hrst.symm.trans hr) (by decide)
    obtain ⟨added, hadded, hreg⟩ := schedService_writePhase_reg hwrite
    obtain ⟨popped, hle, hpop, hevq⟩ := writePhase_evq_drop hwrite
    rw [beforeState_reg, takeInput_reg] at hreg
    rw [beforeState_evq, takeInput_evq] at hevq
    refine ⟨added, popped, hadded, hle, hpop, ?_⟩
    rw [← hreg, ← hevq]
    exact afterState_resolves _ _ _

end Sys2Proof.Machine
end

section
/-! SUPPORT. The registry's deadlines: an entry over any number of ticks, the push of an expired one, and two whole
cycles with an expiry in them: a SEND with timeout 0, and a response that comes out of a full queue too late. -/

namespace Sys2Proof.Machine

/-! ### An entry over its ticks -/

/-- An expired entry is done counting (43_registry.md R196, R200). -/
theorem countEntry_of_expired {e : Entry} (h : e.expired = true) : countEntry e = e := if_pos h

/-- A live entry loses a tick, and expires with its last (R196). -/
theorem countEntry_of_live {e : Entry} (h : e.expired = false) :
    countEntry e = { e with cnt := e.cnt - 1, expired := decide (e.cnt - 1 = 0) } := by
  simp [countEntry, h]

/-- Up to its deadline an entry has a tick fewer after each tick, and is expired exactly when all are gone. -/
theorem countEntry_iterate_of_le {e : Entry} (hlive : e.expired = false) (hcnt : e.cnt ≠ 0) {k : Nat}
    (hk : k ≤ e.cnt.toNat) :
    countEntry^[k] e =
      { e with cnt := e.cnt - BitVec.ofNat 32 k, expired := decide (k = e.cnt.toNat) } := by
  induction k with
  | zero =>
    have hpos : 0 ≠ e.cnt.toNat := fun h => hcnt (BitVec.eq_of_toNat_eq h.symm)
    simp [hpos, ← hlive]
  | succ k ih =>
    have hnext : e.cnt - BitVec.ofNat 32 k - 1 = e.cnt - BitVec.ofNat 32 (k + 1) := by bv_omega
    have hlast : e.cnt - BitVec.ofNat 32 (k + 1) = 0 ↔ k + 1 = e.cnt.toNat := by bv_omega
    rw [Function.iterate_succ_apply', ih (by omega), countEntry_of_live (decide_eq_false (by omega))]
    simp only [hnext, hlast]

/-- Settles O37: before the deadline by the count, at it by the same count, and after it because an expired entry
stays as it is. -/
theorem entryExpiresOnItsLastTick : Obligations.EntryExpiresOnItsLastTick := by
  refine fun e hlive hcnt => ⟨fun k hk => ?_, fun k hk => ?_⟩
  · rw [countEntry_iterate_of_le hlive hcnt hk.le, decide_eq_false hk.ne, ← hlive]
  · have hdeadline : countEntry^[e.cnt.toNat] e = { e with cnt := 0, expired := true } := by
      rw [countEntry_iterate_of_le hlive hcnt le_rfl]
      simp
    obtain ⟨j, rfl⟩ := Nat.exists_eq_add_of_le' hk
    rw [Function.iterate_add_apply, hdeadline, Function.iterate_fixed (countEntry_of_expired rfl)]

/-! ### The timeout push -/

section
variable {s : State}

/-- With room, the first expired entry leaves the registry and its event joins the queue (R198). -/
theorem timeoutPush_of_expired {before after : List Entry} {e : Entry} (hroom : s.evq.length < s.cfg.evqDepth)
    (hreg : s.reg = before ++ e :: after) (hbefore : ∀ x ∈ before, x.expired = false) (he : e.expired = true) :
    timeoutPush s =
      { s with reg := before ++ after, evq := s.evq ++ [timeoutEvent e], cnt := s.cnt.incTimeout } := by
  have hfirst : s.reg.find? (·.expired) = some e :=
    List.find?_eq_some_iff_append.mpr ⟨he, before, after, hreg, by simpa using hbefore⟩
  rcases timeoutPush_cases s with ⟨hnone | hfull, -⟩ | ⟨x, hx, -, heq⟩
  · exact nomatch hfirst.symm.trans hnone
  · exact nomatch ((evqHasRoom_iff s).mpr hroom).symm.trans hfull
  · obtain rfl := Option.some.inj (hfirst.symm.trans hx)
    rw [heq, hreg, eraseP_append_cons (by simpa using hbefore) he]

/-- The push waits while nothing has expired or the queue is full (R198). -/
theorem timeoutPush_of_waiting (h : (∀ x ∈ s.reg, x.expired = false) ∨ s.cfg.evqDepth ≤ s.evq.length) :
    timeoutPush s = s := by
  rcases timeoutPush_cases s with ⟨-, heq⟩ | ⟨e, he, hroom, -⟩
  · exact heq
  · rcases h with hlive | hfull
    · exact nomatch (hlive e (List.mem_of_find?_eq_some he)).symm.trans (List.find?_some he)
    · exact absurd ((evqHasRoom_iff s).mp hroom) (Nat.not_lt.mpr hfull)

end

/-- Settles O38, by the two outcomes of the push. -/
theorem timeoutPushTakesFirstExpired : Obligations.TimeoutPushTakesFirstExpired :=
  fun _ => ⟨fun _ _ _ => timeoutPush_of_expired, timeoutPush_of_waiting⟩

/-! ### A cycle with a command and no other input than a tick -/

/-- The inputs of a cycle in which the host writes a command and nothing else comes but, perhaps, a tick. -/
def commandInput (tick : Bool) (d : Word) : CycleIn := { CycleIn.idle with tick := tick, busOp := .write 2#6 d }

/-- The outputs while no frame is being sent (10_state.md R23). -/
def idleOutputs (s : State) : CycleOut :=
  { busRdata := 0, rxReady := !s.slot.full, txValid := false, txByte := 0, irq := irqLevel s }

theorem portOutputs_of_idle {s : State} (h : s.tx.active = false) : portOutputs s = some (idleOutputs s) := by
  simp [portOutputs, h, idleOutputs]

/-- The start state of a cycle with the engine idle, its inputs taken and its outputs set. -/
def idleStart (ins : List CycleIn) (s : State) : State := { s with inputs := ins, out := idleOutputs s }

section
variable {s : State}

/-- P1 without a session: only the registry counts (44_scheduler.md R213). -/
theorem tickPhase_of_no_session {i : CycleIn} (htick : i.tick = true) (h : s.sch.active = false) :
    tickPhase i s = regCountdown s := by
  rw [tickPhase, if_pos htick]
  rcases schedTick_cases (regCountdown s) with ⟨-, heq⟩ | ⟨hact, -⟩
  · exact heq
  · exact nomatch h.symm.trans hact

/-- P4 without a pending resend (R215). -/
theorem schedService_of_no_resend (h : s.sch.tickPend = false) : schedService s = s := by
  rcases schedService_cases s with ⟨-, heq⟩ | ⟨hpend, -⟩
  · exact heq
  · exact nomatch h.symm.trans hpend

/-- P6 without a frame in the slot (42_dispatcher.md R178). -/
theorem dispatchState_of_empty (h : s.slot.full = false) : dispatchState s = s := by simp [dispatchState, h]

/-- P6 with a telecommand response in the slot (R172). -/
theorem dispatchState_of_telecommandResponse (h : s.slot.full = true) (ht : s.slot.dtype = 2#8) :
    dispatchState s = respond 0x02#8 .tc s := by
  simp [dispatchState, h, ht, stageState]

/-- The second part of P8 without a waiting fault (60_exceptions.md R267). -/
theorem faultPush_of_no_fault (h : s.flt.pend = false) : faultPush s = s := by
  rcases faultPush_cases s with ⟨-, heq⟩ | ⟨hpend, -⟩
  · exact heq
  · exact nomatch h.symm.trans hpend

/-- P4 to P8 without a resend, a received byte or a Transport fault: the frame in the slot and the timeout push. -/
theorem afterState_of_quiet {i : CycleIn} (wasFull : Bool) (hrx : i.rxValid = false) (herr : i.txErrValid = false)
    (hresend : s.sch.tickPend = false) (hfault : s.flt.pend = false) :
    afterState i wasFull s = timeoutPush (dispatchState s) := by
  have hnofault : (timeoutPush (dispatchState s)).flt.pend = false := by
    rw [timeoutPush_eq, dispatchState_eq]
    exact hfault
  simp only [afterState, schedService_of_no_resend hresend, receiveState, hrx, faultPhase, herr, Bool.false_and,
    Bool.false_eq_true, if_false, pushPhase, faultPush_of_no_fault hnofault]

/-- With the engine idle, a cycle with a command is its tick, its command, the frame in the slot and the timeout push. -/
theorem step_of_command {t u : State} {tick : Bool} {d : Word} {ins : List CycleIn}
    (hin : s.inputs = commandInput tick d :: ins) (hidle : s.tx.active = false)
    (htick : tickPhase (commandInput tick d) (idleStart ins s) = t) (hexec : exec (decodeCommand d) t = .next u)
    (hresend : u.sch.tickPend = false) (hfault : u.flt.pend = false) :
    step s = .next (timeoutPush (dispatchState u)) := by
  have hnext : nextInput s = commandInput tick d := by simp [nextInput, hin]
  have htake : takeInput s = { s with inputs := ins } := by simp [takeInput, hin]
  have hrun := stepRunsDecodedAccess s u (decodeCommand d) (idleOutputs s)
  rw [hnext, htake, hidle] at hrun
  obtain ⟨hwrite, -⟩ := hrun rfl (portOutputs_of_idle hidle) rfl
  rw [hwrite 2#6 d rfl (htick ▸ hexec), afterWrite_eq, afterState_of_quiet _ rfl rfl hresend hfault]

/-- EVT_POP with an event to take (45_commands.md R241). -/
theorem exec_evtPop_of_ne_nil (h : s.evq ≠ []) : exec .evtPop s = .next (result 0x5#4 .ok (evqPop s)) := by
  show execEvtPop s = _
  simp [execEvtPop, h]

end

/-! ### A request with timeout 0 -/

/-- The state after SEND of a request that passed its checks: entry, frame and report (R236). -/
def requestSent (t : Byte) (k : Kind) (s : State) : State :=
  result 0x1#4 .ok (txStart t s.ctl.argPay (regInsert k (ident s.ctl.argPay) s.ctl.argTimeout s))

/-- SEND of a request with the wire free and room in the registry passes every check (R236). -/
theorem exec_send_request {t : Byte} {k : Kind} {s : State} (ht : encodable t = true) (hk : requestKind t = some k)
    (hidle : s.tx.active = false) (hresend : s.sch.tickPend = false) (hroom : s.reg.length < s.cfg.regDepth) :
    exec (.send t) s = .next (requestSent t k s) := by
  have hnotfull : regIsFull s = false := decide_eq_false (Nat.not_le.mpr hroom)
  show execSend t s = _
  simp [execSend, requestSent, ht, hidle, hresend, hnotfull, registerRequest, hk]

/-- The two request types: their kinds, and the command words that send them (30_encoding.md R99, R100). -/
theorem request_words {t : Byte} {k : Kind} {d : Word}
    (h : (t, k, d) ∈ [(1#8, Kind.tc, 0x00000101#32), (4#8, Kind.tm, 0x00000401#32)]) :
    encodable t = true ∧ requestKind t = some k ∧ decodeCommand d = .send t := by
  simp only [List.mem_cons, Prod.mk.injEq, List.not_mem_nil, or_false] at h
  rcases h with ⟨rfl, rfl, rfl⟩ | ⟨rfl, rfl, rfl⟩
  · exact ⟨rfl, rfl, decodeCommand_send 1#8⟩
  · exact ⟨rfl, rfl, decodeCommand_send 4#8⟩

/-- Settles O39: SEND's entry is expired when it is inserted, and as the only expired one it is what the timeout push
of the cycle takes away again. -/
theorem zeroTimeoutRequestTimesOutAtOnce : Obligations.ZeroTimeoutRequestTimesOutAtOnce := by
  intro s ins t k d hword hin hidle hresend hslot hfault htimeout hlive hregroom hevqroom
  obtain ⟨ht, hk, hdec⟩ := request_words hword
  have hsend : exec (decodeCommand d) (idleStart ins s) = .next (requestSent t k (idleStart ins s)) := by
    rw [hdec]
    exact exec_send_request ht hk hidle hresend hregroom
  have hstep := step_of_command (tick := false) hin hidle rfl hsend hresend hfault
  have hempty : dispatchState (requestSent t k (idleStart ins s)) = _ := dispatchState_of_empty hslot
  have hpush : timeoutPush (requestSent t k (idleStart ins s)) = _ :=
    timeoutPush_of_expired hevqroom rfl hlive (decide_eq_true htimeout)
  rw [hempty, hpush] at hstep
  exact ⟨_, hstep, List.append_nil _, rfl, rfl, rfl, rfl, rfl⟩

/-! ### A response that waited for room -/

/-- With room for one event and every entry expired, a telecommand response is late and takes the room, and the
timeout push waits (43_registry.md R199). -/
theorem lateResponse_takes_last_room {s : State} (hslot : s.slot.full = true) (htype : s.slot.dtype = 2#8)
    (hroom : s.evq.length + 1 = s.cfg.evqDepth) (hexpired : ∀ x ∈ s.reg, x.expired = true) :
    timeoutPush (dispatchState s) =
      { s with
        evq := s.evq ++ [responseEvent 0x02#8 false .tc s.slot.pay]
        cnt := s.cnt.incLate
        slot := { s.slot with full := false } } := by
  have hnone : ∀ x ∈ s.reg, ¬answers .tc (ident s.slot.pay) x = true := by
    intro x hx h
    obtain ⟨hlive, -, -⟩ := answers_iff.mp h
    exact nomatch hlive.symm.trans (hexpired x hx)
  rw [dispatchState_of_telecommandResponse hslot htype, respond_of_late (Nat.lt_of_succ_le hroom.le) hnone]
  exact timeoutPush_of_waiting (.inr (by simp [hroom]))

/-- Settles O40: the tick expires the entry before P6, where the response finds the room EVT_POP has made. -/
theorem heldResponseLosesToTimeout : Obligations.HeldResponseLosesToTimeout := by
  intro s ins head rest e hin hidle hresend hsession hfault hslot htype hevq hfull hreg hlive hcnt _ _
  have hcount : countEntry e = { e with cnt := 0, expired := true } := by
    rw [countEntry_of_live hlive, hcnt]
    rfl
  have hpop : exec .evtPop (regCountdown (idleStart ins s)) = .next (result 0x5#4 .ok (evqPop _)) :=
    exec_evtPop_of_ne_nil (hevq.trans_ne (List.cons_ne_nil head rest))
  have hstep := step_of_command (tick := true) hin hidle (tickPhase_of_no_session rfl hsession) hpop hresend hfault
  have hlate : timeoutPush (dispatchState (result 0x5#4 .ok (evqPop (regCountdown (idleStart ins s))))) = _ :=
    lateResponse_takes_last_room hslot htype (by simp [idleStart, ← hfull, hevq])
      (by simp [idleStart, hreg, hcount])
  rw [hlate] at hstep
  exact ⟨_, hstep, by simp [idleStart, hevq, responseEvent, ident], by simp [idleStart, hreg, hcount], rfl, rfl, rfl⟩

end Sys2Proof.Machine
end

section
/-! SUPPORT. The scheduler: one tick of a session, one service of a resend, and a session's phase and crossings over
any number of ticks and cycles. -/

namespace Sys2Proof.Machine

/-! ### One tick -/

section
variable {s : State}

/-- Without a session a tick changes nothing (R213). -/
theorem schedTick_of_no_session (hidle : s.sch.active = false) : schedTick s = s := by
  rcases schedTick_cases s with ⟨-, heq⟩ | ⟨hact, -⟩
  · exact heq
  · exact nomatch hidle.symm.trans hact

/-- Below the threshold the phase grows by the rate (R213): the sum does not wrap. -/
theorem schedTick_of_below (hact : s.sch.active = true)
    (hlt : s.sch.acc.toNat + s.sch.rate.toNat < s.cfg.thresh) (hthresh : s.cfg.thresh ≤ 2 ^ 31) :
    schedTick s = { s with sch := { s.sch with acc := s.sch.acc + s.sch.rate } } := by
  rcases schedTick_cases s with ⟨hidle, -⟩ | ⟨-, ⟨-, heq⟩ | ⟨hge, -⟩⟩
  · exact nomatch hact.symm.trans hidle
  · exact heq
  · rw [BitVec.toNat_add_of_lt (by omega)] at hge
    omega

/-- At or past the threshold the phase keeps the remainder, and a resend falls due or is lost and counted (R214). -/
theorem schedTick_of_crossing (hact : s.sch.active = true)
    (hge : s.cfg.thresh ≤ s.sch.acc.toNat + s.sch.rate.toNat)
    (hwrap : s.sch.acc.toNat + s.sch.rate.toNat < 2 ^ 32) :
    schedTick s =
      { s with
        sch :=
          { s.sch with
            acc := BitVec.ofNat 32 (s.sch.acc.toNat + s.sch.rate.toNat - s.cfg.thresh), tickPend := true }
        cnt := { s.cnt with schedOvr := if s.sch.tickPend then s.cnt.schedOvr + 1 else s.cnt.schedOvr } } := by
  rcases schedTick_cases s with ⟨hidle, -⟩ | ⟨-, ⟨hlt, -⟩ | ⟨-, heq⟩⟩
  · exact nomatch hact.symm.trans hidle
  · rw [BitVec.toNat_add_of_lt hwrap] at hlt
    omega
  · have hacc : s.sch.acc + s.sch.rate - BitVec.ofNat 32 s.cfg.thresh =
        BitVec.ofNat 32 (s.sch.acc.toNat + s.sch.rate.toNat - s.cfg.thresh) := by
      apply BitVec.eq_of_toNat_eq
      rw [BitVec.toNat_sub, BitVec.toNat_add_of_lt hwrap, BitVec.toNat_ofNat, BitVec.toNat_ofNat]
      omega
    rw [heq, hacc]
    cases s.sch.tickPend <;> rfl

end

/-- Settles O42, by the three outcomes of a tick. -/
theorem schedTickStepsAccumulator : Obligations.SchedTickStepsAccumulator :=
  fun _ => ⟨schedTick_of_no_session, schedTick_of_below, schedTick_of_crossing⟩

/-- A running session with its rate and its phase in range, under legal parameters (R9, R37 item 3). -/
structure SessionInRange (c : Config) (t : Scheduler) : Prop where
  legal : c.legal = true
  active : t.active = true
  rate_le : t.rate.toNat ≤ c.thresh
  acc_lt : t.acc.toNat < c.thresh

section
variable {s u : State}

/-- One tick of a session in range, with both outcomes in one: the phase is the sum's remainder (R213, R214). -/
theorem schedTick_of_session (h : SessionInRange s.cfg s.sch) :
    schedTick s =
      { s with
        sch :=
          { s.sch with
            acc := BitVec.ofNat 32 ((s.sch.acc.toNat + s.sch.rate.toNat) % s.cfg.thresh)
            tickPend := s.sch.tickPend || decide (s.cfg.thresh ≤ s.sch.acc.toNat + s.sch.rate.toNat) }
        cnt :=
          { s.cnt with
            schedOvr :=
              if s.sch.tickPend = true ∧ s.cfg.thresh ≤ s.sch.acc.toNat + s.sch.rate.toNat then s.cnt.schedOvr + 1
              else s.cnt.schedOvr } } := by
  obtain ⟨hlegal, hact, hrate, hacc⟩ := h
  obtain ⟨-, hbound⟩ := thresh_bounds hlegal
  by_cases hlt : s.sch.acc.toNat + s.sch.rate.toNat < s.cfg.thresh
  · have hsum : s.sch.acc + s.sch.rate = BitVec.ofNat 32 (s.sch.acc.toNat + s.sch.rate.toNat) := by
      simp [BitVec.ofNat_add]
    rw [schedTick_of_below hact hlt (by omega), Nat.mod_eq_of_lt hlt, hsum]
    simp [Nat.not_le.mpr hlt]
  · have hge := Nat.le_of_not_lt hlt
    rw [schedTick_of_crossing hact hge (by omega), Nat.mod_eq_sub_mod hge, Nat.mod_eq_of_lt (by omega)]
    simp [hge]

/-! ### The phase of a session -/

/-- From `t`, after `n` ticks, to `v`: the phase has grown by the rate for each tick, modulo the threshold, and the
session is otherwise the same; a resend may have fallen due or been served. -/
structure PhaseAfter (c : Config) (n : Nat) (t v : Scheduler) : Prop where
  phase : v.acc.toNat = (t.acc.toNat + n * t.rate.toNat) % c.thresh
  session : { v with acc := t.acc, tickPend := t.tickPend } = t

theorem PhaseAfter.rate_eq {c : Config} {n : Nat} {t v : Scheduler} (h : PhaseAfter c n t v) : v.rate = t.rate :=
  (congrArg Scheduler.rate h.session :)

theorem PhaseAfter.refl {c : Config} {t : Scheduler} (h : t.acc.toNat < c.thresh) : PhaseAfter c 0 t t :=
  ⟨by simp [Nat.mod_eq_of_lt h], rfl⟩

theorem PhaseAfter.trans {c : Config} {m n : Nat} {t v w : Scheduler} (h₁ : PhaseAfter c m t v)
    (h₂ : PhaseAfter c n v w) : PhaseAfter c (m + n) t w where
  phase := by rw [h₂.phase, h₁.phase, h₁.rate_eq, Nat.mod_add_mod, Nat.add_mul, Nat.add_assoc]
  session := (congrArg (fun x : Scheduler => { x with acc := t.acc, tickPend := t.tickPend }) h₂.session).trans
    h₁.session

/-- Ticks keep a session in range. -/
theorem SessionInRange.of_phaseAfter {c : Config} {n : Nat} {t v : Scheduler} (h : SessionInRange c t)
    (hv : PhaseAfter c n t v) : SessionInRange c v where
  legal := h.legal
  active := (congrArg Scheduler.active hv.session).trans h.active
  rate_le := hv.rate_eq ▸ h.rate_le
  acc_lt := hv.phase ▸ Nat.mod_lt _ (Nat.zero_lt_of_lt h.acc_lt)

theorem phaseAfter_schedTick (h : SessionInRange s.cfg s.sch) : PhaseAfter s.cfg 1 s.sch (schedTick s).sch := by
  obtain ⟨-, hbound⟩ := thresh_bounds h.legal
  have hmod := Nat.mod_lt (s.sch.acc.toNat + s.sch.rate.toNat) (Nat.zero_lt_of_lt h.acc_lt)
  rw [schedTick_of_session h]
  refine ⟨?_, rfl⟩
  rw [BitVec.toNat_ofNat, Nat.mod_eq_of_lt (by omega), Nat.one_mul]

@[simp] theorem schedTick_cfg : (schedTick s).cfg = s.cfg := by rw [schedTick_eq]

theorem SessionInRange.schedTick (h : SessionInRange s.cfg s.sch) :
    SessionInRange (schedTick s).cfg (schedTick s).sch := by
  rw [schedTick_cfg]
  exact h.of_phaseAfter (phaseAfter_schedTick h)

/-! ### Any number of ticks -/

theorem phaseAfter_afterTicks (h : SessionInRange s.cfg s.sch) (k : Nat) :
    PhaseAfter s.cfg k s.sch (afterTicks k s).sch := by
  induction k generalizing s with
  | zero => exact .refl h.acc_lt
  | succ k ih =>
    have hrest := ih h.schedTick
    rw [schedTick_cfg] at hrest
    have hall := (phaseAfter_schedTick h).trans hrest
    rwa [Nat.add_comm] at hall

/-- The crossings that a session has not yet sent a frame for: those counted as overruns and the one that made a
resend due (R214). -/
def unsentCrossings (s : State) : Word := s.cnt.schedOvr + if s.sch.tickPend then 1 else 0

/-- Each tick adds the times its sum holds the threshold, at most once. -/
theorem unsentCrossings_schedTick (h : SessionInRange s.cfg s.sch) :
    unsentCrossings (schedTick s) =
      unsentCrossings s + BitVec.ofNat 32 ((s.sch.acc.toNat + s.sch.rate.toNat) / s.cfg.thresh) := by
  have hrate := h.rate_le
  have hacc := h.acc_lt
  rw [schedTick_of_session h]
  by_cases hge : s.cfg.thresh ≤ s.sch.acc.toNat + s.sch.rate.toNat
  · rw [Nat.div_eq_of_lt_le (k := 1) (by omega) (by omega)]
    cases hp : s.sch.tickPend <;> simp [unsentCrossings, hp, hge]
  · rw [Nat.div_eq_of_lt (Nat.lt_of_not_le hge)]
    simp [unsentCrossings, hge]

theorem unsentCrossings_afterTicks (h : SessionInRange s.cfg s.sch) (k : Nat) :
    unsentCrossings (afterTicks k s) =
      unsentCrossings s + BitVec.ofNat 32 ((s.sch.acc.toNat + k * s.sch.rate.toNat) / s.cfg.thresh) := by
  induction k generalizing s with
  | zero => simp [afterTicks, Nat.div_eq_of_lt h.acc_lt]
  | succ k ih =>
    have htick := phaseAfter_schedTick h
    have hquot : (s.sch.acc.toNat + (k + 1) * s.sch.rate.toNat) / s.cfg.thresh =
        (s.sch.acc.toNat + s.sch.rate.toNat) / s.cfg.thresh +
          ((s.sch.acc.toNat + s.sch.rate.toNat) % s.cfg.thresh + k * s.sch.rate.toNat) / s.cfg.thresh := by
      rw [← Nat.mul_add_div (Nat.zero_lt_of_lt h.acc_lt), ← Nat.add_assoc, Nat.div_add_mod]
      ring_nf
    rw [afterTicks, ih h.schedTick, unsentCrossings_schedTick h, schedTick_cfg, htick.phase, htick.rate_eq, hquot,
      Nat.one_mul, BitVec.ofNat_add, BitVec.add_assoc]

/-- A resend falls due at the first crossing and stays due (R214). -/
theorem tickPend_afterTicks (h : SessionInRange s.cfg s.sch) (k : Nat) :
    (afterTicks k s).sch.tickPend = true ↔
      s.sch.tickPend = true ∨ s.cfg.thresh ≤ s.sch.acc.toNat + k * s.sch.rate.toNat := by
  induction k generalizing s with
  | zero => simp [afterTicks, h.acc_lt]
  | succ k ih =>
    have htick := phaseAfter_schedTick h
    have hpend : (schedTick s).sch.tickPend =
        (s.sch.tickPend || decide (s.cfg.thresh ≤ s.sch.acc.toNat + s.sch.rate.toNat)) := by
      rw [schedTick_of_session h]
    rw [afterTicks, ih h.schedTick, hpend, schedTick_cfg, htick.phase, htick.rate_eq, Nat.one_mul, Nat.succ_mul,
      Bool.or_eq_true, decide_eq_true_iff, or_assoc]
    refine or_congr_right ?_
    by_cases hge : s.cfg.thresh ≤ s.sch.acc.toNat + s.sch.rate.toNat
    · simp only [hge, true_or, true_iff]
      omega
    · rw [Nat.mod_eq_of_lt (Nat.lt_of_not_le hge)]
      omega

end

/-- Settles O44: from phase 0 with no resend due, what `k` ticks add is all there is. -/
theorem cadenceIsFloorOfElapsedPeriods : Obligations.CadenceIsFloorOfElapsedPeriods := by
  intro s k hlegal hact hrate hacc hpend
  have hzero : s.sch.acc.toNat = 0 := by simp [hacc]
  obtain ⟨hlo, -⟩ := thresh_bounds hlegal
  have h : SessionInRange s.cfg s.sch := ⟨hlegal, hact, hrate, by omega⟩
  have hphase := (phaseAfter_afterTicks h k).phase
  have hcross := unsentCrossings_afterTicks h k
  have hdue := tickPend_afterTicks h k
  rw [hzero, Nat.zero_add] at hphase hcross hdue
  refine ⟨?_, ?_, ?_⟩
  · rw [← hphase, BitVec.ofNat_toNat, BitVec.setWidth_eq]
  · simpa [unsentCrossings, hpend] using hcross
  · simpa [hpend] using hdue

/-! ### The resend service -/

/-- Only the two request types create an entry, each of its kind (30_encoding.md R99). -/
theorem requestKind_eq (t : Byte) :
    requestKind t = if t = 1#8 then some .tc else if t = 4#8 then some .tm else none := by
  revert t; decide

theorem requestKind_isSome_iff (t : Byte) : (requestKind t).isSome = true ↔ t = 1#8 ∨ t = 4#8 := by
  rw [requestKind_eq]
  split_ifs <;> simp [*]

/-- The registry after a frame is sent: a request's entry at the tail, and nothing for another type (R193, R202). -/
theorem registerRequest_reg_eq (t : Byte) (p : Pay) (d : Word) (s : State) :
    (registerRequest t p d s).reg = s.reg ++
      (if t = 1#8 then [{ kind := .tc, id := payWord p 0, cnt := d, expired := decide (d = 0) }]
      else if t = 4#8 then [{ kind := .tm, id := payWord p 0, cnt := d, expired := decide (d = 0) }]
      else []) := by
  unfold registerRequest
  rw [requestKind_eq]
  by_cases htc : t = 1#8
  · simp [htc, ident]
  · by_cases htm : t = 4#8 <;> simp [htc, htm, ident]

section
variable {s : State}

/-- A request with the registry full is skipped and counted (R216). -/
theorem schedService_of_full (hpend : s.sch.tickPend = true) (hidle : s.tx.active = false)
    (hkind : (requestKind s.sch.dtype).isSome = true) (hfull : regIsFull s = true) :
    schedService s = { s with sch := { s.sch with tickPend := false }, cnt := s.cnt.incSchedSkip } := by
  rcases schedService_cases s with ⟨hwait, -⟩ | ⟨-, -, ⟨-, -, heq⟩ | ⟨hroom, -⟩⟩
  · simp [hpend, hidle] at hwait
  · exact heq
  · simp [hkind, hfull] at hroom

/-- With room for the entry it needs, if any, a resend registers its request and starts its frame (R216). -/
theorem schedService_of_room (hpend : s.sch.tickPend = true) (hidle : s.tx.active = false)
    (hroom : (requestKind s.sch.dtype).isSome = true → regIsFull s = false) :
    schedService s =
      { s with
        sch := { s.sch with tickPend := false }
        reg := (registerRequest s.sch.dtype s.sch.pay s.sch.timeout s).reg
        tx := (txStart s.sch.dtype s.sch.pay s).tx } := by
  rcases schedService_cases s with ⟨hwait, -⟩ | ⟨-, -, ⟨hkind, hfull, -⟩ | ⟨-, heq⟩⟩
  · simp [hpend, hidle] at hwait
  · exact nomatch hfull.symm.trans (hroom hkind)
  · exact heq

end

/-- Settles O43, by the three outcomes of the service: the wait, the skip and the start. -/
theorem resendServiced : Obligations.ResendServiced := by
  refine fun s => ⟨fun hwait => ?_, fun hpend hidle htype hfull => ?_, fun hpend hidle _ hroom => ?_⟩
  · exact hwait.elim schedService_of_no_resend schedService_of_active
  · exact schedService_of_full hpend hidle ((requestKind_isSome_iff _).mpr htype) (decide_eq_true hfull)
  · have hnotfull : (requestKind s.sch.dtype).isSome = true → regIsFull s = false := fun hkind =>
      decide_eq_false (Nat.not_le.mpr (hroom ((requestKind_isSome_iff _).mp hkind)))
    rw [schedService_of_room hpend hidle hnotfull, registerRequest_reg_eq, txStart_tx]

/-! ### The phase through a cycle -/

section
variable (i : CycleIn) (b : Bool) (s : State)

/-! No phase changes the parameters (assumption 3). -/

@[simp] theorem tickPhase_cfg : (tickPhase i s).cfg = s.cfg := by
  unfold tickPhase
  split
  · rw [schedTick_cfg, regCountdown_cfg]
  · rfl

@[simp] theorem sendPhase_cfg : (sendPhase i b s).cfg = s.cfg := by
  unfold sendPhase
  split
  · rw [txAdvance_eq]
  · rfl

@[simp] theorem schedService_cfg : (schedService s).cfg = s.cfg := by rw [schedService_eq]

@[simp] theorem receiveState_cfg : (receiveState i b s).cfg = s.cfg := by
  unfold receiveState
  split
  · rw [dfState_eq]
  · rfl

@[simp] theorem dispatchState_cfg : (dispatchState s).cfg = s.cfg := by rw [dispatchState_eq]
@[simp] theorem faultPhase_cfg : (faultPhase i s).cfg = s.cfg := by rw [faultPhase_eq]
@[simp] theorem pushPhase_cfg : (pushPhase s).cfg = s.cfg := by rw [pushPhase, faultPush_eq, timeoutPush_eq]
@[simp] theorem beforeState_cfg (o : CycleOut) : (beforeState i o s).cfg = s.cfg := by simp [beforeState]
@[simp] theorem afterState_cfg : (afterState i b s).cfg = s.cfg := by simp [afterState]

@[simp] theorem sendPhase_sch : (sendPhase i b s).sch = s.sch := by
  unfold sendPhase
  split
  · rw [txAdvance_eq]
  · rfl

end

section
variable {i : CycleIn} {s u : State}

/-- P1 and P2: the phase steps on a tick. -/
theorem phaseAfter_beforeState (o : CycleOut) (h : SessionInRange s.cfg s.sch) :
    PhaseAfter s.cfg i.tick.toNat s.sch (beforeState i o s).sch := by
  rw [beforeState, sendPhase_sch, tickPhase]
  cases i.tick with
  | false => exact .refl h.acc_lt
  | true => exact phaseAfter_schedTick (s := regCountdown { s with out := _ }) h

/-- P4 serves a resend without touching the phase (R217). -/
theorem PhaseAfter.schedService {c : Config} {n : Nat} {t : Scheduler} (h : PhaseAfter c n t s.sch) :
    PhaseAfter c n t (schedService s).sch := by
  rcases schedService_cases s with ⟨-, heq⟩ | ⟨-, -, ⟨-, -, heq⟩ | ⟨-, heq⟩⟩ <;> rw [heq]
  · exact h
  · exact ⟨h.phase, h.session⟩
  · exact ⟨h.phase, h.session⟩

theorem quiet_iff : i.quiet = true ↔ i.rst = false ∧ ∀ w d, i.busOp ≠ .write w d := by
  unfold CycleIn.quiet
  cases i.busOp <;> simp

/-- A step without reset or Write is its phases. -/
theorem step_of_quiet (hquiet : (nextInput s).quiet = true) (h : step s = .next u) :
    ∃ o, u = afterState (nextInput s) s.slot.full (beforeState (nextInput s) o (takeInput s)) := by
  obtain ⟨hrst, hop⟩ := quiet_iff.mp hquiet
  rcases cycle_cases h with ⟨hr, -⟩ | ⟨-, o, -, ho, -, -⟩
  · exact nomatch hrst.symm.trans hr
  · exact ⟨o, Host.Outcome.next.inj (h.symm.trans (cycle_eq_of_no_write hrst ho hop))⟩

/-- A quiet step keeps the parameters, takes one input and steps the phase on a tick. -/
theorem step_of_quiet_session (hquiet : (nextInput s).quiet = true) (hs : SessionInRange s.cfg s.sch)
    (h : step s = .next u) :
    u.cfg = s.cfg ∧ u.inputs = s.inputs.tail ∧ PhaseAfter s.cfg (nextInput s).tick.toNat s.sch u.sch := by
  obtain ⟨o, rfl⟩ := step_of_quiet hquiet h
  refine ⟨by simp, by rw [afterState_beforeState]; rfl, ?_⟩
  rw [afterState_sch]
  exact (phaseAfter_beforeState (s := takeInput s) o hs).schedService

/-! ### The phase over a run -/

/-- A run of `n + 1` steps is a step and a run of `n`. -/
theorem run_succ_eq_next {M : Host.Core} {n : Nat} {s u : M.State} (h : M.run (n + 1) s = .next u) :
    ∃ t, M.step s = .next t ∧ M.run n t = .next u := by
  rw [Host.Core.run] at h
  split at h
  · exact ⟨_, ‹_›, h⟩
  · exact nomatch h
  · exact nomatch h

theorem length_filter_tick_cons (i : CycleIn) (ins : List CycleIn) :
    ((i :: ins).filter (·.tick)).length = i.tick.toNat + (ins.filter (·.tick)).length := by
  cases h : i.tick <;> simp [h, Nat.add_comm]

/-- Over a quiet run the phase steps once for each tick that comes. -/
theorem phaseAfter_run {ins : List CycleIn} (hin : s.inputs = ins) (hquiet : ∀ i ∈ ins, i.quiet = true)
    (hs : SessionInRange s.cfg s.sch) (h : Sys2Proof.core.run ins.length s = .next u) :
    PhaseAfter s.cfg (ins.filter (·.tick)).length s.sch u.sch := by
  induction ins generalizing s with
  | nil =>
    obtain rfl : s = u := Host.Outcome.next.inj h
    exact .refl hs.acc_lt
  | cons i ins ih =>
    obtain ⟨t, hstep, hrun⟩ := run_succ_eq_next h
    have hnext : nextInput s = i := by simp [nextInput, hin]
    obtain ⟨hcfg, htail, hphase⟩ :=
      step_of_quiet_session (hnext ▸ hquiet i List.mem_cons_self) hs hstep
    have hrange : SessionInRange t.cfg t.sch := hcfg ▸ hs.of_phaseAfter hphase
    have hrest := ih (by rw [htail, hin]; rfl) (fun j hj => hquiet j (List.mem_cons_of_mem i hj)) hrange hrun
    rw [hcfg] at hrest
    rw [length_filter_tick_cons, ← hnext]
    exact hphase.trans hrest

end

/-- Settles O45: every quiet cycle steps the phase by its tick alone, and the steps add up modulo the threshold. -/
theorem sessionPhaseNeverDrifts : Obligations.SessionPhaseNeverDrifts := by
  intro s u hlegal hact hrate hacc hquiet hrun
  obtain ⟨hphase, hsession⟩ := phaseAfter_run rfl hquiet ⟨hlegal, hact, hrate, hacc⟩ hrun
  exact ⟨hphase, hsession⟩

end Sys2Proof.Machine
end

section
/-! SUPPORT. The command a write to CMD runs, and what every command reports (45_commands.md R231 to R234). -/

namespace Sys2Proof.Machine

/-! ### The word and its command -/

/-- A well-formed word whose opcode takes no TYPE has TYPE 0 (R233). -/
theorem noType_of_wordWellFormed {d : Word} (h : wordWellFormed d = true) (hsend : (cmdOp d).toNat ≠ 1)
    (hstart : (cmdOp d).toNat ≠ 2) (i : Instr) : noType d i = i := by
  obtain ⟨-, -, -, htype | hop | hop⟩ := (wordWellFormed_iff d).mp h
  · exact if_pos htype
  · exact absurd hop hsend
  · exact absurd hop hstart

/-- A write to CMD runs the instruction the decoder reads in its word (R231). -/
theorem runCommand_eq_exec (d : Word) (s : State) : runCommand d s = exec (decodeCommand d) s := by
  cases hd : wordWellFormed d with
  | false =>
    rw [runCommand, hd, decodeCommand_eq_badCmd hd]
    rfl
  | true =>
    obtain ⟨hhigh, hres, hle, -⟩ := (wordWellFormed_iff d).mp hd
    have hplain := fun hsend hstart i => congrArg (exec · s) (noType_of_wordWellFormed hd hsend hstart i).symm
    rw [runCommand, if_pos hd, decodeCommand, if_pos ⟨hhigh, hres⟩]
    generalize (cmdOp d).toNat = op at hle hplain ⊢
    interval_cases op
    · exact hplain (by decide) (by decide) .nop
    · rfl
    · rfl
    · exact hplain (by decide) (by decide) .schedAdjust
    · exact hplain (by decide) (by decide) .schedStop
    · exact hplain (by decide) (by decide) .evtPop
    · exact hplain (by decide) (by decide) .clrCnt

/-- Settles O4. -/
theorem writeToCmdRunsItsCommand : Obligations.WriteToCmdRunsItsCommand :=
  runCommand_eq_exec

/-- The opcode field as a number (30_encoding.md R100). -/
theorem cmdOp_toNat (d : Word) : (cmdOp d).toNat = d.toNat % 16 := by
  rw [cmdOp, BitVec.extractLsb'_toNat, Nat.shiftRight_zero]

/-- The conditions of R233, as arithmetic on the word. -/
theorem wordWellFormed_iff_toNat (d : Word) : wordWellFormed d = true ↔
    d.toNat / 2 ^ 16 = 0 ∧ d.toNat / 16 % 16 = 0 ∧ d.toNat % 16 ≤ 6 ∧
      (d.toNat / 256 % 256 = 0 ∨ d.toNat % 16 = 1 ∨ d.toNat % 16 = 2) := by
  have hhigh : (cmdHigh d).toNat = d.toNat / 2 ^ 16 := by
    have := d.isLt
    rw [cmdHigh, BitVec.extractLsb'_toNat, Nat.shiftRight_eq_div_pow]
    omega
  have hres : (cmdReserved d).toNat = d.toNat / 16 % 16 := by
    rw [cmdReserved, BitVec.extractLsb'_toNat, Nat.shiftRight_eq_div_pow]
  have htype : (cmdType d).toNat = d.toNat / 256 % 256 := by
    rw [cmdType, BitVec.extractLsb'_toNat, Nat.shiftRight_eq_div_pow]
  rw [wordWellFormed_iff, ← BitVec.toNat_inj, ← BitVec.toNat_inj (x := cmdReserved d),
    ← BitVec.toNat_inj (x := cmdType d), hhigh, hres, htype, cmdOp_toNat]
  rfl

/-- A well-formed word is not read as BAD_CMD (R233). -/
theorem decodeCommand_ne_badCmd {d : Word} (h : wordWellFormed d = true) : decodeCommand d ≠ .badCmd d := by
  intro hbad
  obtain ⟨hwf, -⟩ := decodeCommand_sound d
  rw [hbad, Instr.wellFormed, h] at hwf
  exact nomatch hwf

/-! ### The report -/

/-- CMD_RESULT as a number: the opcode over the result code (R42, R232). -/
theorem resultWord_toNat (op : BitVec 4) (c : ResultCode) :
    (resultWord op c).toNat = op.toNat * 256 + c.byte.toNat := by
  revert op; cases c <;> decide

/-- The fields of CMD_RESULT (R42, R232). -/
theorem resultWord_fields (op : BitVec 4) (c : ResultCode) :
    (resultWord op c).extractLsb' 16 16 = 0#16 ∧ (resultWord op c).extractLsb' 8 8 = 0#4 ++ op ∧
      (resultWord op c).extractLsb' 0 8 = c.byte := by
  simp only [resultWord, BitVec.extractLsb'_append_eq_of_le, BitVec.extractLsb'_append_eq_right, Nat.reduceSub,
    Nat.reduceLeDiff, BitVec.extractLsb'_eq_self, le_refl, true_and, and_true]
  exact BitVec.setWidth_eq_append (by decide)

/-- The result codes lie in the range of R102. -/
theorem ResultCode.byte_toNat_le (c : ResultCode) : c.byte.toNat ≤ 8 := by
  cases c <;> decide

/-- BAD_CMD reports the word's opcode field and code 1, whatever the word (R233). -/
theorem exec_badCmd (d : Word) (s : State) :
    exec (.badCmd d) s =
      .next { s with ctl := { s.ctl with cmdResult := BitVec.ofNat 32 (d.toNat % 16 * 256 + 1) } } := by
  have hword : resultWord (cmdOp d) .badCmd = BitVec.ofNat 32 (d.toNat % 16 * 256 + 1) := by
    refine BitVec.eq_of_toNat_eq ?_
    rw [resultWord_toNat, cmdOp_toNat, BitVec.toNat_ofNat, show ResultCode.badCmd.byte.toNat = 1 from rfl]
    omega
  rw [← hword]
  rfl

/-- Settles O3: the arithmetic conditions are the model's, on which the decoder turns. -/
theorem illFormedWordIsRefused : Obligations.IllFormedWordIsRefused := by
  intro d s
  rw [← wordWellFormed_iff_toNat]
  refine ⟨decodeCommand_ne_badCmd, fun hd => ?_, exec_badCmd d s⟩
  have hbad : decodeCommand d = .badCmd d := decodeCommand_eq_badCmd (Bool.eq_false_of_not_eq_true hd)
  have hrun : exec (.wr 2#6 d) s = exec (decodeCommand d) s := runCommand_eq_exec d s
  exact ⟨hbad, by rw [hrun, hbad, exec_badCmd]⟩

/-- The instruction answers a next state from every state, with a report under the opcode `op`; unless it reports OK,
the report is all it does (R232, R234). -/
def Reports (op : BitVec 4) (i : Instr) : Prop :=
  ∀ s : State, ∃ u c, exec i s = .next (result op c u) ∧ (c = .ok ∨ u = s)

theorem reports_nop : Reports 0x0#4 .nop := fun s => ⟨s, _, rfl, .inl rfl⟩
theorem reports_schedStop : Reports 0x4#4 .schedStop := fun _ => ⟨_, _, rfl, .inl rfl⟩
theorem reports_clrCnt : Reports 0x6#4 .clrCnt := fun _ => ⟨_, _, rfl, .inl rfl⟩
theorem reports_badCmd (d : Word) : Reports (cmdOp d) (.badCmd d) := fun s => ⟨s, _, rfl, .inr rfl⟩

theorem reports_send (t : Byte) : Reports 0x1#4 (.send t) := by
  intro s
  simp only [exec, execSend]
  split_ifs
  · exact ⟨s, _, rfl, .inr rfl⟩
  · exact ⟨s, _, rfl, .inr rfl⟩
  · exact ⟨s, _, rfl, .inr rfl⟩
  · exact ⟨_, _, rfl, .inl rfl⟩

theorem reports_schedStart (t : Byte) : Reports 0x2#4 (.schedStart t) := by
  intro s
  simp only [exec, execSchedStart]
  split_ifs
  · exact ⟨s, _, rfl, .inr rfl⟩
  · cases rateRefusal s with
    | some c => exact ⟨s, c, rfl, .inr rfl⟩
    | none => exact ⟨_, _, rfl, .inl rfl⟩

theorem reports_schedAdjust : Reports 0x3#4 .schedAdjust := by
  intro s
  simp only [exec, execSchedAdjust]
  split_ifs
  · exact ⟨s, _, rfl, .inr rfl⟩
  · cases rateRefusal s with
    | some c => exact ⟨s, c, rfl, .inr rfl⟩
    | none => exact ⟨_, _, rfl, .inl rfl⟩

theorem reports_evtPop : Reports 0x5#4 .evtPop := by
  intro s
  simp only [exec, execEvtPop]
  split_ifs
  · exact ⟨s, _, rfl, .inr rfl⟩
  · exact ⟨_, _, rfl, .inl rfl⟩

theorem reports_noType {d : Word} {i : Instr} (h : Reports (cmdOp d) i) : Reports (cmdOp d) (noType d i) := by
  rcases noType_cases d i with ⟨-, heq⟩ | heq <;> rw [heq]
  · exact h
  · exact reports_badCmd d

/-- Every word's command reports under the word's opcode field. -/
theorem reports_decodeCommand (d : Word) : Reports (cmdOp d) (decodeCommand d) := by
  have hopcode : ∀ (op : BitVec 4) (i : Instr), (cmdOp d).toNat = op.toNat → Reports op i → Reports (cmdOp d) i :=
    fun op i h hi => BitVec.eq_of_toNat_eq h ▸ hi
  unfold decodeCommand
  split_ifs
  · split
    next hop => exact reports_noType (hopcode 0x0#4 _ hop reports_nop)
    next hop => exact hopcode 0x1#4 _ hop (reports_send _)
    next hop => exact hopcode 0x2#4 _ hop (reports_schedStart _)
    next hop => exact reports_noType (hopcode 0x3#4 _ hop reports_schedAdjust)
    next hop => exact reports_noType (hopcode 0x4#4 _ hop reports_schedStop)
    next hop => exact reports_noType (hopcode 0x5#4 _ hop reports_evtPop)
    next hop => exact reports_noType (hopcode 0x6#4 _ hop reports_clrCnt)
    next => exact reports_badCmd d
  · exact reports_badCmd d

/-- A write to CMD answers a report under the word's opcode field, and nothing more unless that is OK. -/
theorem exec_wr_cmd (d : Word) (s : State) :
    ∃ u c, exec (.wr 2#6 d) s = .next (result (cmdOp d) c u) ∧ (c = .ok ∨ u = s) := by
  obtain ⟨u, c, hexec, hc⟩ := reports_decodeCommand d s
  exact ⟨u, c, (runCommand_eq_exec d s).trans hexec, hc⟩

/-- Settles O13: the fields of the report. -/
theorem everyCommandReports : Obligations.EveryCommandReports := by
  intro d s
  obtain ⟨u, c, hexec, -⟩ := exec_wr_cmd d s
  obtain ⟨hhigh, hop, hcode⟩ := resultWord_fields (cmdOp d) c
  exact ⟨_, hexec, hhigh, hop, hcode.symm ▸ c.byte_toNat_le⟩

/-- Settles O14: a command that reports another code than OK is its report alone. -/
theorem refusedCommandChangesOnlyResult : Obligations.RefusedCommandChangesOnlyResult := by
  intro d s u hu hne
  obtain ⟨v, c, hexec, hc⟩ := exec_wr_cmd d s
  obtain rfl : u = result (cmdOp d) c v := Host.Outcome.next.inj (hu.symm.trans hexec)
  obtain ⟨-, -, hcode⟩ := resultWord_fields (cmdOp d) c
  rcases hc with rfl | rfl
  · exact absurd hcode hne
  · rfl

end Sys2Proof.Machine
end

section
/-! SUPPORT. The effect of each command: its checks in order, and the state an accepted one leaves (45_commands.md
R235 to R242). -/

namespace Sys2Proof.Machine

/-- A command word with the reserved nibble and the opcode written as one byte (30_encoding.md R100). -/
theorem commandWord_eq_bytes (op : BitVec 4) (t : Byte) : commandWord op t = 0#16 ++ t ++ (0#4 ++ op) := by
  rw [commandWord, BitVec.append_assoc, BitVec.cast_eq]

/-- Settles O5. -/
theorem nopSetsOnlyResult : Obligations.NopSetsOnlyResult :=
  ⟨rfl, fun _ => rfl⟩

/-! ### SEND -/

section
variable {t : Byte} {s : State}

/-- A type outside the five has no encoding (30_encoding.md R95). -/
theorem encodable_eq_false (ht : t ∉ encodableTypes) : encodable t = false :=
  Bool.eq_false_of_not_eq_true fun h => ht ((encodable_iff t).mp h)

theorem exec_send_of_badType (ht : t ∉ encodableTypes) : exec (.send t) s = .next (result 0x1#4 .badType s) := by
  simp only [exec, execSend, encodable_eq_false ht, Bool.not_false, if_true]

theorem exec_send_of_busy (ht : t ∈ encodableTypes) (hbusy : s.tx.active = true ∨ s.sch.tickPend = true) :
    exec (.send t) s = .next (result 0x1#4 .busy s) := by
  simp only [exec, execSend, (encodable_iff t).mpr ht, Bool.not_true, Bool.false_eq_true, if_false,
    Bool.or_eq_true, hbusy, if_true]

theorem exec_send_of_full (ht : t = 1#8 ∨ t = 4#8) (hidle : s.tx.active = false) (hresend : s.sch.tickPend = false)
    (hfull : s.cfg.regDepth ≤ s.reg.length) : exec (.send t) s = .next (result 0x1#4 .regFull s) := by
  have htype : encodable t = true := by rcases ht with rfl | rfl <;> rfl
  have hkind := (requestKind_isSome_iff t).mpr ht
  have hregFull : regIsFull s = true := decide_eq_true hfull
  simp only [exec, execSend, htype, hidle, hresend, hkind, hregFull, Bool.not_true, Bool.or_self, Bool.and_self,
    Bool.false_eq_true, if_false, if_true]

/-- A SEND that passes its checks registers its request, if it is one, and starts the frame (R236). -/
theorem exec_send_of_accepted (ht : t ∈ encodableTypes) (hidle : s.tx.active = false)
    (hresend : s.sch.tickPend = false) (hroom : t = 1#8 ∨ t = 4#8 → s.reg.length < s.cfg.regDepth) :
    exec (.send t) s =
      .next (result 0x1#4 .ok (txStart t s.ctl.argPay (registerRequest t s.ctl.argPay s.ctl.argTimeout s))) := by
  have hnotfull : ((requestKind t).isSome && regIsFull s) = false := by
    cases hkind : (requestKind t).isSome with
    | false => rfl
    | true => exact decide_eq_false (Nat.not_le.mpr (hroom ((requestKind_isSome_iff t).mp hkind)))
  simp only [exec, execSend, (encodable_iff t).mpr ht, hidle, hresend, hnotfull, Bool.not_true, Bool.or_self,
    Bool.false_eq_true, if_false]

end

/-- Settles O6, check by check. -/
theorem sendEffect : Obligations.SendEffect := by
  refine fun t s => ⟨?_, exec_send_of_badType, exec_send_of_busy, exec_send_of_full,
    fun ht hidle hresend hroom => ?_⟩
  · exact (congrArg decodeCommand (commandWord_eq_bytes 0x1#4 t)).symm.trans (decodeCommand_send t)
  · rw [exec_send_of_accepted ht hidle hresend hroom, registerRequest_eq, registerRequest_reg_eq]
    rfl

/-! ### SCHED_START and SCHED_ADJUST -/

section
variable {t : Byte} {s : State}

/-- ARG_RATE 0 is refused first (44_scheduler.md R222). -/
theorem rateRefusal_of_zero (h : s.ctl.argRate = 0) : rateRefusal s = some .rateZero :=
  if_pos h

/-- An ARG_RATE above the threshold is refused next (R222). -/
theorem rateRefusal_of_above (h0 : s.ctl.argRate ≠ 0) (h : s.cfg.thresh < s.ctl.argRate.toNat) :
    rateRefusal s = some .rateRange := by
  rw [rateRefusal, if_neg h0, if_pos h]

/-- Any other ARG_RATE is taken (R222). -/
theorem rateRefusal_of_inRange (h0 : s.ctl.argRate ≠ 0) (h : s.ctl.argRate.toNat ≤ s.cfg.thresh) :
    rateRefusal s = none := by
  rw [rateRefusal, if_neg h0, if_neg (Nat.not_lt.mpr h)]

theorem exec_schedStart_of_badType (ht : t ∉ encodableTypes) :
    exec (.schedStart t) s = .next (result 0x2#4 .badType s) := by
  simp only [exec, execSchedStart, encodable_eq_false ht, Bool.not_false, if_true]

theorem exec_schedStart_of_refused {c : ResultCode} (ht : t ∈ encodableTypes) (h : rateRefusal s = some c) :
    exec (.schedStart t) s = .next (result 0x2#4 c s) := by
  simp only [exec, execSchedStart, (encodable_iff t).mpr ht, h, Bool.not_true, Bool.false_eq_true, if_false]

theorem exec_schedStart_of_accepted (ht : t ∈ encodableTypes) (h : rateRefusal s = none) :
    exec (.schedStart t) s = .next (result 0x2#4 .ok (startSession t s)) := by
  simp only [exec, execSchedStart, (encodable_iff t).mpr ht, h, Bool.not_true, Bool.false_eq_true, if_false]

theorem exec_schedAdjust_of_noSession (h : s.sch.active = false) :
    exec .schedAdjust s = .next (result 0x3#4 .noSession s) := by
  simp only [exec, execSchedAdjust, h, Bool.not_false, if_true]

theorem exec_schedAdjust_of_refused {c : ResultCode} (hact : s.sch.active = true) (h : rateRefusal s = some c) :
    exec .schedAdjust s = .next (result 0x3#4 c s) := by
  simp only [exec, execSchedAdjust, hact, h, Bool.not_true, Bool.false_eq_true, if_false]

theorem exec_schedAdjust_of_accepted (hact : s.sch.active = true) (h : rateRefusal s = none) :
    exec .schedAdjust s = .next (result 0x3#4 .ok { s with sch := { s.sch with rate := s.ctl.argRate } }) := by
  simp only [exec, execSchedAdjust, hact, h, Bool.not_true, Bool.false_eq_true, if_false]

end

/-- Settles O8, check by check. -/
theorem schedStartEffect : Obligations.SchedStartEffect := by
  intro t s
  refine ⟨?_, exec_schedStart_of_badType, fun ht h0 => ?_, fun ht h0 habove => ?_, fun ht h0 hrange => ?_⟩
  · exact (congrArg decodeCommand (commandWord_eq_bytes 0x2#4 t)).symm.trans (decodeCommand_schedStart t)
  · exact exec_schedStart_of_refused ht (rateRefusal_of_zero h0)
  · exact exec_schedStart_of_refused ht (rateRefusal_of_above h0 habove)
  · exact exec_schedStart_of_accepted ht (rateRefusal_of_inRange h0 hrange)

/-- Settles O9, check by check. -/
theorem schedAdjustEffect : Obligations.SchedAdjustEffect := by
  refine ⟨rfl, fun s => ⟨fun hact h0 hrange => ?_, exec_schedAdjust_of_noSession, fun hact h0 => ?_,
    fun hact h0 habove => ?_⟩⟩
  · exact exec_schedAdjust_of_accepted hact (rateRefusal_of_inRange h0 hrange)
  · exact exec_schedAdjust_of_refused hact (rateRefusal_of_zero h0)
  · exact exec_schedAdjust_of_refused hact (rateRefusal_of_above h0 habove)

/-! ### SCHED_STOP, EVT_POP and CLR_CNT -/

/-- With the block's invariant a scheduler without a session is already as SCHED_STOP leaves it (10_state.md R37). -/
theorem BlockInv.stopped_sch {s : State} (h : BlockInv s) (hact : s.sch.active = false) :
    { s.sch with active := false, acc := 0, tickPend := false } = s.sch := by
  obtain ⟨-, -, hacc⟩ := h.sch
  have hpend : s.sch.tickPend = false := Bool.eq_false_of_not_eq_true fun hp => by
    obtain ⟨-, hrun⟩ := h.resendWaits hp
    exact nomatch hact.symm.trans hrun
  calc { s.sch with active := false, acc := 0, tickPend := false }
      = { s.sch with active := s.sch.active, acc := s.sch.acc, tickPend := s.sch.tickPend } := by
        rw [hact, hacc hact, hpend]
    _ = s.sch := rfl

/-- Settles O10: the command is unconditional, and without a session it finds nothing to clear. -/
theorem schedStopEndsSession : Obligations.SchedStopEndsSession := by
  refine ⟨rfl, fun _ => rfl, fun s hinv hact => ?_⟩
  have hstop : exec .schedStop s =
      .next (result 0x4#4 .ok { s with sch := { s.sch with active := false, acc := 0, tickPend := false } }) := rfl
  rw [hstop, hinv.stopped_sch hact]
  rfl

/-- EVT_POP with no event to take (R241). -/
theorem exec_evtPop_of_nil {s : State} (h : s.evq = []) : exec .evtPop s = .next (result 0x5#4 .evqEmpty s) := by
  simp only [exec, execEvtPop, h, List.isEmpty_nil, if_true]

/-- Settles O11, by whether there is a head event. -/
theorem evtPopRemovesHead : Obligations.EvtPopRemovesHead := by
  refine ⟨rfl, fun s => ⟨fun e es hq => ?_, exec_evtPop_of_nil⟩⟩
  have htail : es = s.evq.tail := by rw [hq, List.tail_cons]
  rw [htail]
  exact exec_evtPop_of_ne_nil (hq ▸ List.cons_ne_nil e es)

/-- Settles O12. -/
theorem clrCntClearsTwelveCounters : Obligations.ClrCntClearsTwelveCounters :=
  ⟨rfl, fun _ => rfl⟩

end Sys2Proof.Machine
end

section
/-! SUPPORT. The words of the register map that show one field (10_state.md R39 to R60). -/

namespace Sys2Proof.Machine

/-- The words from 0x80 up are the counters, by their place (R59). -/
theorem regRead_counter {w : WordIdx} (h : 32 ≤ w.toNat) (s : State) :
    regRead s w = counterAt s.cnt (w.toNat - 32) := by
  unfold regRead
  split
  case h_33 => rfl
  all_goals omega

/-- There are twelve counters (R59). -/
theorem counterAt_past {n : Nat} (h : 12 ≤ n) (c : Counters) : counterAt c n = 0 := by
  unfold counterAt
  split
  case h_13 => rfl
  all_goals omega

/-- CTRL shows the interrupt enable in bit 0 (R39). -/
theorem regRead_ctrl (s : State) : regRead s 0#6 = if s.ctl.irqEn then 0x00000001#32 else 0x00000000#32 := by
  show (flag s.ctl.irqEn).zeroExtend 32 = _
  cases s.ctl.irqEn <;> rfl

/-- REG_SEL shows its byte under zeros (R54). -/
theorem regRead_regSel (s : State) : regRead s 28#6 = 0#24 ++ s.ctl.regSel :=
  BitVec.setWidth_eq_append (by decide)

/-- Settles O15: RD is its read, and each word of one field is that field; past the counters nothing is mapped. -/
theorem readPutsRegisterOnBus : Obligations.ReadPutsRegisterOnBus := by
  refine fun s => ⟨fun _ => rfl, regRead_ctrl s, rfl, rfl, rfl, rfl, rfl, rfl, regRead_regSel s, rfl, rfl, rfl, rfl,
    rfl, rfl, rfl, rfl, rfl, rfl, rfl, rfl, fun w hw => ?_⟩
  rw [regRead_counter (by omega), counterAt_past (by omega)]
  rfl

end Sys2Proof.Machine
end

section
/-! SUPPORT. Transport faults (60_exceptions.md R266, R267), the outputs a state with the invariant always has, and the
cycles in which nothing is driven but, perhaps, a Transport error. -/

namespace Sys2Proof.Machine

/-! ### A Transport fault -/

section
variable {s : State} (code : Bool)

/-- The data of a fault event: its code in the last byte of the first word (R267). -/
theorem faultData_eq : faultData code = #v[0, 0, 0, (if code then 1#8 else 0#8), 0, 0, 0, 0, 0, 0, 0, 0] := by
  cases code <;> decide

/-- While a fault waits a further one is only counted (R266). -/
theorem faultCapture_of_waiting (h : s.flt.pend = true) :
    faultCapture code s = { s with cnt := { s.cnt with fault := s.cnt.fault + 1 } } := by
  rw [faultCapture, if_pos h, Counters.incFault]

/-- Without a waiting fault it is kept with its code, and counted (R266). -/
theorem faultCapture_of_none (h : s.flt.pend = false) :
    faultCapture code s =
      { s with cnt := { s.cnt with fault := s.cnt.fault + 1 }, flt := { pend := true, code := code } } := by
  rw [faultCapture, if_neg (Bool.eq_false_iff.mp h), Counters.incFault]

/-- Without room in the queue a fault waits on (R267). -/
theorem faultPush_of_full (h : s.cfg.evqDepth ≤ s.evq.length) : faultPush s = s := by
  rcases faultPush_cases s with ⟨-, heq⟩ | ⟨-, hroom, -⟩
  · exact heq
  · exact absurd ((evqHasRoom_iff s).mp hroom) (Nat.not_lt.mpr h)

/-- With room a waiting fault's event joins the queue, and its code is kept (R267). -/
theorem faultPush_of_room (h : s.flt.pend = true) (hroom : s.evq.length < s.cfg.evqDepth) :
    faultPush s = { s with flt := { s.flt with pend := false }, evq := s.evq ++ [faultEvent s.flt.code] } := by
  rcases faultPush_cases s with ⟨hnone | hfull, -⟩ | ⟨-, -, heq⟩
  · exact nomatch h.symm.trans hnone
  · exact nomatch ((evqHasRoom_iff s).mpr hroom).symm.trans hfull
  · exact heq

/-- With room, a fault captured while none waits is counted and becomes its event at once (R266, R267). -/
theorem faultPush_faultCapture (h : s.flt.pend = false) (hroom : s.evq.length < s.cfg.evqDepth) :
    faultPush (faultCapture code s) =
      { s with
        flt := { pend := false, code := code }
        cnt := { s.cnt with fault := s.cnt.fault + 1 }
        evq := s.evq ++ [faultEvent code] } := by
  have hpend : (faultCapture code s).flt.pend = true := by rw [faultCapture_of_none code h]
  rw [faultPush_of_room hpend hroom, faultCapture_of_none code h]

end

/-- Settles O47, by the two outcomes of the capture and of the push. -/
theorem waitingFaultKeepsItsCode : Obligations.WaitingFaultKeepsItsCode := by
  refine fun s code => ⟨faultCapture_of_waiting code, faultCapture_of_none code, ?_, fun hpend hroom => ?_⟩
  · rintro (hnone | hfull)
    · exact faultPush_of_no_fault hnone
    · exact faultPush_of_full hfull
  · rw [faultPush_of_room hpend hroom, faultEvent, faultData_eq]

/-! ### The outputs of a state with the invariant -/

/-- An engine that is sending inside its frame has a byte to offer (40_encoder.md R127). -/
theorem txByte_isSome_of_txInv {tx : TxEngine} (h : txInv tx) (ha : tx.active = true) : (txByte tx).isSome = true := by
  obtain ⟨-, -, hframe⟩ := h
  obtain ⟨n, hn, hidx⟩ := hframe ha
  have hraw := rawFrame_of_size hn tx.pay
  rw [txByte_of_rawFrame hraw]
  split
  · rfl
  · simpa [rawFrame_length_of_size hn hraw] using hidx

/-- The outputs of a cycle have a value unless the engine is sending and has no byte to offer (10_state.md R23). -/
theorem exists_portOutputs {s : State} (h : s.tx.active = true → (txByte s.tx).isSome = true) :
    ∃ o, portOutputs s = some o := by
  cases ha : s.tx.active with
  | false => exact ⟨_, portOutputs_of_idle ha⟩
  | true =>
    obtain ⟨b, hb⟩ := Option.isSome_iff_exists.mp (h ha)
    exact ⟨_, by rw [portOutputs, if_pos ha, hb, Option.map_some]⟩

theorem BlockInv.exists_portOutputs {s : State} (h : BlockInv s) : ∃ o, portOutputs s = some o :=
  Machine.exists_portOutputs (txByte_isSome_of_txInv h.tx)

/-! ### A cycle that does not stop -/

/-- P1 and P2 take nothing off the coming inputs. -/
@[simp] theorem beforeState_inputs (i : CycleIn) (o : CycleOut) (s : State) :
    (beforeState i o s).inputs = s.inputs :=
  (congrArg State.inputs
    (beforePhases_withHost s.ctl s.inputs { o with busRdata := readData i.busOp s } i s s.tx.active) :)

/-- P4 to P8 take nothing off the coming inputs. -/
@[simp] theorem afterState_inputs (i : CycleIn) (b : Bool) (s : State) : (afterState i b s).inputs = s.inputs :=
  (congrArg State.inputs (afterState_withHost s.ctl s.inputs s.out i s b) :)

/-- No write changes the parameters or takes off the coming inputs. -/
theorem writePhase_cfg_inputs {op : BusOp} {s u : State} (h : writePhase op s = .next u) :
    u.cfg = s.cfg ∧ u.inputs = s.inputs := by
  obtain ⟨t, ht, heq⟩ := writePhase_frame op s
  obtain rfl := Host.Outcome.next.inj (ht.symm.trans h)
  rw [heq]
  exact ⟨rfl, rfl⟩

/-- Settles O55: the one stop of a cycle is an engine without a byte to offer, which the invariant excludes. -/
theorem stepNeverStops : Obligations.StepNeverStops := by
  intro s h
  cases hrst : (nextInput s).rst with
  | true => exact ⟨_, if_pos hrst, rfl, rfl⟩
  | false =>
    obtain ⟨o, ho⟩ := h.exists_portOutputs
    obtain ⟨t, hwrite, hcycle⟩ := cycle_next (s := takeInput s) hrst ho
    obtain ⟨hcfg, hinputs⟩ := writePhase_cfg_inputs hwrite
    rw [beforeState_cfg] at hcfg
    rw [beforeState_inputs] at hinputs
    exact ⟨_, hcycle, (afterState_cfg ..).trans hcfg, (afterState_inputs ..).trans hinputs⟩

/-! ### A cycle in which nothing is driven but, perhaps, a Transport error -/

/-- The inputs of a cycle in which nothing is driven but, perhaps, a Transport error. -/
def errorInput (valid code : Bool) : CycleIn := { CycleIn.still with txErrValid := valid, txErrCode := code }

/-- With no resend to serve and no frame to dispatch, only P7 and P8 of such a cycle are left (10_state.md R62). -/
theorem phasesState_errorInput (valid code : Bool) {s : State} (hserve : schedService s = s)
    (hdispatch : dispatchState s = s) :
    phasesState (errorInput valid code) s = pushPhase (faultPhase (errorInput valid code) s) := by
  have htick : tickPhase (errorInput valid code) s = s := rfl
  have hsend : sendPhase (errorInput valid code) s.tx.active s = s := by
    rw [sendPhase, errorInput, CycleIn.still, Bool.and_false, if_neg Bool.false_ne_true]
  have hreceive : receiveState (errorInput valid code) s.slot.full s = s := rfl
  rw [phasesState, htick, hsend, afterState, hserve, hreceive, hdispatch]

/-- Settles O46: P7 keeps the error as a fault, nothing has expired for the timeout push, and the fault push finds
room. -/
theorem transportErrorBecomesEvent : Obligations.TransportErrorBecomesEvent := by
  intro s ins code hin htx hresend hslot hnofault hlive hroom
  have hnext : nextInput s = errorInput true code := by rw [nextInput, hin]; rfl
  obtain ⟨o, ho⟩ := exists_portOutputs htx
  have hphases : phasesState (errorInput true code) s = faultPush (timeoutPush (faultCapture code s)) :=
    phasesState_errorInput true code (schedService_of_no_resend hresend) (dispatchState_of_empty hslot)
  have hnotimeout : timeoutPush (faultCapture code s) = faultCapture code s := timeoutPush_of_waiting (.inl hlive)
  rw [hnotimeout, faultPush_faultCapture code hnofault hroom, faultEvent, faultData_eq] at hphases
  have hstep := step_eq_of_idle (s := s) (by rw [hnext]; rfl) (by rw [hnext]; rfl) ho
  rw [hnext, hphases, hin] at hstep
  exact ⟨_, hstep, rfl⟩

section
variable {s : State}

/-- At the start of a cycle a pending resend waits for the wire (R37 item 4). -/
theorem BlockInv.schedService_eq_self (h : BlockInv s) : schedService s = s := by
  cases hpend : s.sch.tickPend with
  | false => exact schedService_of_no_resend hpend
  | true => exact schedService_of_active (h.resendWaits hpend).1

/-- At the start of a cycle a frame in the slot is a response that waits for room (42_dispatcher.md R179). -/
theorem BlockInv.dispatchState_eq_self (h : BlockInv s) : dispatchState s = s := by
  cases hslot : s.slot.full with
  | false => exact dispatchState_of_empty hslot
  | true =>
    obtain ⟨htype, hfull⟩ := h.slotWaits hslot
    rw [dispatchState, if_pos hslot]
    rcases stageState_dispatched_cases s.slot.dtype s with ⟨-, k, heq⟩ | ⟨hother, -⟩
    · rw [heq, respond_of_no_room hfull.ge]
    · exact absurd htype hother

/-- At the start of a cycle a fault waits for room, so that P8 can only push a timeout (R267). -/
theorem BlockInv.pushPhase_eq (h : BlockInv s) : pushPhase s = timeoutPush s := by
  cases hfault : s.flt.pend with
  | false => exact faultPush_of_no_fault ((congrArg (·.flt.pend) (timeoutPush_eq s)).trans hfault)
  | true =>
    have hfull : s.cfg.evqDepth ≤ s.evq.length := (h.faultWaits hfault).ge
    rw [pushPhase, timeoutPush_of_waiting (.inr hfull), faultPush_of_full hfull]

end

/-- Settles O58: what waits at the start of a cycle waits for a port or for room, and neither comes. -/
theorem stillBlockOnlyPushesTimeouts : Obligations.StillBlockOnlyPushesTimeouts := by
  intro s h hstill
  have hnext : nextInput s = errorInput false false := hstill
  obtain ⟨o, ho⟩ := h.exists_portOutputs
  have hphases : phasesState (errorInput false false) s = pushPhase s :=
    phasesState_errorInput false false h.schedService_eq_self h.dispatchState_eq_self
  have hstep := step_eq_of_idle (s := s) (by rw [hnext]; rfl) (by rw [hnext]; rfl) ho
  rw [hnext, hphases, h.pushPhase_eq] at hstep
  refine ⟨_, hstep, ?_⟩
  rw [timeoutPush_eq]
  rfl

end Sys2Proof.Machine
end

section
/-! SUPPORT. The reset state (70_reset_and_hazards.md R281, R286): that a reset cycle leads to it, and that the whole
register map reads 0 in it (R287). -/

namespace Sys2Proof.Machine

/-- In a reset cycle no phase runs (R281). -/
theorem step_of_rst {s : State} (hrst : (nextInput s).rst = true) :
    step s = .next (State.resetWith s.cfg s.inputs.tail) :=
  if_pos hrst

/-- Reading a register sees neither the parameters nor the inputs to come. -/
theorem regRead_cfg_inputs (s : State) (c : Config) (ins : List CycleIn) (w : WordIdx) :
    regRead { s with cfg := c, inputs := ins } w = regRead s w := rfl

/-- The words of a payload buffer of zeros (20_memory.md R80). -/
theorem payWord_zero (k : Fin 3) : payWord Pay.zero k = 0 := by
  fin_cases k <;> rfl

/-- Every counter is 0, and so is every word past the counters (10_state.md R59, R60). -/
theorem counterAt_zero (n : Nat) : counterAt .zero n = 0 := by
  unfold counterAt
  split <;> rfl

/-- After reset every word reads 0 (R287): the payload words are made of zeros, the queue has no head and the registry
no selected entry, the counters are cleared, and each word that is left shows or packs fields that are 0. -/
theorem regRead_reset (w : WordIdx) : regRead State.reset w = 0 := by
  unfold regRead
  split
  case h_7 | h_8 | h_9 | h_15 | h_16 | h_17 => exact payWord_zero _
  case h_19 | h_20 | h_21 | h_22 | h_23 => exact headField_nil rfl _
  case h_30 | h_31 | h_32 => exact entField_past (Nat.zero_le _) _
  case h_33 => exact counterAt_zero _
  all_goals rfl

/-- Settles O49: the reset branch of the cycle, and the register map of the state it answers. -/
theorem resetWins : Obligations.ResetWins := by
  intro s hrst
  refine ⟨_, step_of_rst hrst, rfl, fun w => ?_⟩
  exact (regRead_cfg_inputs State.reset s.cfg s.inputs.tail w).trans (regRead_reset w)

/-- Settles O53: the default parameters are legal (00_scope.md R9). -/
theorem resetSatisfiesInvariant : Obligations.ResetSatisfiesInvariant :=
  ⟨blockInv_resetWith (by decide) [], paddingInv_resetWith Config.defaults []⟩

end Sys2Proof.Machine
end
